-- ==== Sys2Proof/Word.lean ====
section
/-! DEFINITION. The two word types of the hardware: the byte a bus access moves and a general register holds
(`XLEN8`), and the 16-bit word of an address, of PC and of SP (`ALEN`), rule R9. -/

namespace Sys2Proof

/-- A byte: what one bus access moves and one general register holds (R9 `XLEN8`, R65). -/
abbrev Byte := BitVec 8

/-- A word: a bus address, PC, SP or a register pair (R9 `ALEN`, R21, R23, R24). -/
abbrev Word := BitVec 16

end Sys2Proof
end

