-- ==== Sys2Proof/Machine/Bits.lean ====
section
/-! DEFINITION. Byte order, halves of a word and sign extension: the notation of 00_scope section 7 that the decoder,
the bus and the instruction meanings share. -/

namespace Sys2Proof

/-- The high byte `v[15:8]` of a word. -/
def Word.hiByte (v : Word) : Byte := BitVec.extractLsb' 8 8 v

/-- The low byte `v[7:0]` of a word. -/
def Word.loByte (v : Word) : Byte := BitVec.extractLsb' 0 8 v

/-- `hi : lo`, the word with the given halves (R21, R65). -/
def Word.join (hi lo : Byte) : Word := hi ++ lo

/-- `sext_16(e)`: the two's complement sign extension of a byte (00_scope section 7, R107). -/
def Byte.sext (e : Byte) : Word := BitVec.signExtend 16 e

/-- `0xFF00 + n`: the high-page address with low byte `n` (R107). -/
def Byte.highPage (n : Byte) : Word := Word.join 0xFF n

end Sys2Proof
end

