-- ==== Sys2Proof/Config.lean ====
section
/-! DEFINITION. The implementation parameters of rule R9 that the spec fixes at a value, the cartridge controller
kinds, and the size code of rule R10. Parameters that stay arguments (ROM, BANK_COUNT, MBC_KIND, RAM_BANKS,
RESET_BASELINE, MEM_INIT, XRAM_INIT) are in `Machine.Cartridge`, `Machine.Baseline` and `Machine.ResetInit`; END_OF_RUN is
the argument of `Machine.runUntil`. -/

namespace Sys2Proof

/-- Low-nibble value that sets the RAM-enable latch (R9, R81, D21). -/
def Config.ramEnableSentinel : BitVec 4 := 0xA

/-- Byte read from FEA0 to FEFF (R9, R62). DESIGN CHOICE of the spec (D5), log entry 8. -/
def Config.fillUnusable : Byte := 0xFF

/-- Byte read from external RAM that cannot answer (R9, R80). DESIGN CHOICE of the spec (D6), log entry 8. -/
def Config.fillOpenbus : Byte := 0xFF

/-- Primary opcode that selects the extended table (R9, R276). -/
def Config.prefixByte : Byte := 0xCB

/-- Address of the interrupt-enable register (R9, R28). -/
def Config.ieAddr : Word := 0xFFFF

/-- Address of the interrupt-request register (R9, R29). -/
def Config.ifAddr : Word := 0xFF0F

/-- Bytes in one ROM bank (R9). -/
def Config.romBankSize : Nat := 0x4000

/-- Bytes in one external RAM bank (R9). -/
def Config.ramBankSize : Nat := 0x2000

/-- Cycles one idle step in Halted, Stopped or Locked mode charges (R9, R340). -/
def Config.cyclesTick : Nat := 4

/-- Cycles an interrupt dispatch charges (R9, R340). -/
def Config.cyclesDispatch : Nat := 20

/-- The bank controller kinds the spec gives rules for (R9 `MBC_KIND`, R72). -/
inductive MbcKind where
  | romOnly
  | mbc1
  | mbc3
  | mbc5
  deriving DecidableEq, Repr

/-- Every controller kind the source names (00_scope section 6): a cartridge may declare one; R75 refuses six. -/
inductive ControllerKind where
  | romOnly
  | mbc1
  | mbc2
  | mmm01
  | mbc3
  | mbc5
  | mbc6
  | mbc7
  | huC1
  | huC3
  deriving DecidableEq, Repr

/-- The kinds in scope; the six others have no behaviour in the spec and are refused (R75). -/
def ControllerKind.supported : ControllerKind → Option MbcKind
  | .romOnly => some .romOnly
  | .mbc1 => some .mbc1
  | .mbc2 => none
  | .mmm01 => none
  | .mbc3 => some .mbc3
  | .mbc5 => some .mbc5
  | .mbc6 => none
  | .mbc7 => none
  | .huC1 => none
  | .huC3 => none

end Sys2Proof
end

