-- ==== Sys2Proof/Machine/State.lean ====
section
/-! DEFINITION. The state of the block: every register, engine bit, bank-controller register and memory the spec
names (10_state R20 to R31), the cartridge (R9, R33), and two fields of the model's own: the cycle count
the last step returned and what the outside does before the coming steps. Also the reasons a step can stop. -/

namespace Sys2Proof.Machine

/-- One byte store (R30): a list of (offset, byte) pairs in canonical form, offsets strictly rising and no entry
equal to `Memory.unlisted`. -/
abbrev Memory := List Host.Cell

/-- What an offset that the list does not name reads as. DESIGN CHOICE, log entry 4: a matter of representation, since a
store may list any other byte anywhere. -/
abbrev Memory.unlisted : Byte := 0x00

/-- The four engine modes (R26). -/
inductive Mode where
  | running
  | halted
  | stopped
  | locked
  deriving DecidableEq, Repr

/-- The bank controller's registers (R31). Which of them a kind uses, and how many bits of each, is R76 to R79. -/
structure Mbc where
  ramEnable : Bool
  romLow : BitVec 8
  romHigh : BitVec 1
  aux : BitVec 4
  bankMode : BitVec 1
  deriving DecidableEq, Repr

/-- The register values reset gives (R9 `RESET_BASELINE`, R35); the defaults are the spec's. -/
structure Baseline where
  a : Byte := 0x01
  f : Byte := 0x00
  b : Byte := 0xFF
  c : Byte := 0x13
  d : Byte := 0x00
  e : Byte := 0xC1
  h : Byte := 0x84
  l : Byte := 0x03
  pc : Word := 0x0100
  sp : Word := 0xFFFE
  ime : Bool := false
  deriving DecidableEq, Repr

/-- The cartridge in the machine (R9, R33): no step and no reset changes it. `sizeCode` is the code `c` of R10 with
`BANK_COUNT = 2 << c`; `rom` holds the ROM image by offset. -/
structure Cartridge where
  kind : MbcKind
  sizeCode : Fin 9
  ramBanks : Fin 17
  rom : Memory
  deriving DecidableEq, Repr

/-- Everything behind the bus (R50): the cartridge and its bank controller (R31, R72), the byte stores (R30; IF is offset
0x0F of `io`, R29), and IE (R28). -/
structure Bus where
  cart : Cartridge
  mbc : Mbc
  vram : Memory
  wram : Memory
  oam : Memory
  io : Memory
  hram : Memory
  xram : Memory
  ie : Byte
  deriving DecidableEq, Repr

/-- The memory contents a reset leaves (R9 `MEM_INIT` and `XRAM_INIT`, R35, R36): any bytes. -/
structure ResetInit where
  vram : List Host.Cell := []
  wram : List Host.Cell := []
  oam : List Host.Cell := []
  io : List Host.Cell := []
  hram : List Host.Cell := []
  xram : List Host.Cell := []
  deriving DecidableEq, Repr

/-- The five interrupt sources in priority order (R288). -/
inductive Source where
  | vblank
  | lcdStatus
  | timer
  | serial
  | joypad
  deriving DecidableEq, Repr

/-- One action of the outside between two steps (R6, R342): a write to the I/O window, a write to IE, setting or
clearing one request bit of IF, or a reset of the whole block. -/
inductive EnvMove where
  | writeIo (offset : BitVec 7) (v : Byte)
  | writeIe (v : Byte)
  | raise (i : Source)
  | clear (i : Source)
  | reset (init : ResetInit)
  deriving DecidableEq, Repr

/-- What one step receives from outside: the moves made since the last step, in order, and the `wake` input (R290). -/
structure StepInput where
  moves : List EnvMove := []
  wake : Bool := false
  deriving DecidableEq, Repr

/-- The whole state: registers R20 to R25, engine bits R26 and R27, the bus, and the reset baseline R9 (R35). `cycles` is
what the last step returned (log entry 2); `inputs` is what the outside does before the coming steps, first entry first,
and nothing once it is empty (log entry 1). -/
@[ext]
structure State where
  a : Byte
  f : Byte
  b : Byte
  c : Byte
  d : Byte
  e : Byte
  h : Byte
  l : Byte
  sp : Word
  pc : Word
  ime : Bool
  mode : Mode
  imePending : Bool
  haltBug : Bool
  bus : Bus
  baseline : Baseline
  cycles : Nat
  inputs : List StepInput
  deriving DecidableEq, Repr

/-- The reasons a step can fault: none. The hardware raises no synchronous exception and no step is a hard failure
(R285, R287), so nothing raises one; log entry 5. -/
inductive Fault where
  deriving DecidableEq, Repr

/-- The reasons something is refused. No instruction and no step of a modelled instruction answers one. -/
inductive Refusal where
  /-- Raised by an arm of `exec` for an instruction with no meaning yet; safe. No arm raises it now. -/
  | notModelled (mnemonic : String)
  /-- Raised by `construct` for a cartridge whose controller kind the spec gives no behaviour for (R75); safe. -/
  | unsupportedController (kind : ControllerKind)
  /-- Raised by `construct` for a size code above 8 (R10, R11); safe. -/
  | invalidSizeCode (code : Nat)
  /-- Raised by `construct` for an image whose length is not the declared size (R10); safe. -/
  | sizeMismatch (length : Nat)
  /-- Raised by `construct` for more than 16 external RAM banks (R9 `RAM_BANKS`); safe. -/
  | ramBanksOutOfRange (banks : Nat)
  deriving DecidableEq, Repr

/-- What a meaning and a step answer. -/
abbrev Result := Host.Outcome State Fault Refusal

/-- The bank controller after reset (R35, D23). -/
def Mbc.reset : Mbc :=
  { ramEnable := false, romLow := 1, romHigh := 0, aux := 0, bankMode := 0 }

/-- The cartridge of `State.reset`: ROM only, two banks, no external RAM, every ROM byte 0x00. DESIGN CHOICE, log entry 3:
the spec leaves all four to the cartridge. -/
def Cartridge.blank : Cartridge :=
  { kind := .romOnly, sizeCode := 0, ramBanks := 0, rom := [] }

/-- The machine right after reset (R35, R320), with the blank cartridge and the default baseline (log entry 3) and every
byte of RAM 0x00, which the spec leaves open (log entry 4). `State.applyReset` gives the state after reset for every
other choice. -/
def State.reset : State :=
  { a := 0x01, f := 0x00, b := 0xFF, c := 0x13, d := 0x00, e := 0xC1, h := 0x84, l := 0x03
    sp := 0xFFFE, pc := 0x0100, ime := false
    mode := .running, imePending := false, haltBug := false
    bus :=
      { cart := Cartridge.blank, mbc := Mbc.reset
        vram := [], wram := [], oam := [], io := [], hram := [], xram := []
        ie := 0x00 }
    baseline := {}, cycles := 0, inputs := [] }

end Sys2Proof.Machine
end

