-- ==== Sys2Proof/Syntax.lean ====
section
/-! DEFINITION. The instruction set as syntax: the operand names of the encoding fields (R103 to R106), `Instr` with one
constructor per row of spec/opcode_table.json (R108, R109, R113), and `Form`, the pattern lines of R108 and R109 that
the rows are cases of. -/

namespace Sys2Proof

/-- An 8-bit register a field `r` or `s` names (R103). -/
inductive Reg8 where
  | b | c | d | e | h | l | a
  deriving DecidableEq, Repr

/-- An 8-bit operand a 3-bit field names: a register, or the byte at HL (R103, R120). -/
inductive Opnd where
  | reg (r : Reg8)
  | indHl
  deriving DecidableEq, Repr

/-- A pair field read as `rr` (R104). -/
inductive Pair where
  | bc | de | hl | sp
  deriving DecidableEq, Repr

/-- A pair field read as `qq` (R104). -/
inductive StackPair where
  | bc | de | hl | af
  deriving DecidableEq, Repr

/-- The addresses the accumulator is loaded from and stored to through a pair (R126 to R129, R136 to R139). -/
inductive Indirect where
  | bc | de | hlInc | hlDec
  deriving DecidableEq, Repr

/-- A condition field `cc` (R105). -/
inductive Cond where
  | nz | z | nc | c
  deriving DecidableEq, Repr

/-- A 3-bit index field: the bit index `b` or the restart index `t` (R106). -/
inductive Idx3 where
  | i0 | i1 | i2 | i3 | i4 | i5 | i6 | i7
  deriving DecidableEq, Repr

/-- The eight accumulator operations, in the order of `op[5:3]` (42_alu8 section 2). -/
inductive AluOp where
  | add | adc | sub | sbc | and | xor | or | cp
  deriving DecidableEq, Repr

/-- The eight shift functions, in the order of `op2[5:3]` (R224). -/
inductive RotOp where
  | rlc | rrc | rl | rr | sla | sra | swap | srl
  deriving DecidableEq, Repr

/-- The eleven illegal primary opcodes (R110). -/
inductive IllegalOp where
  | xD3 | xDB | xDD | xE3 | xE4 | xEB | xEC | xED | xF4 | xFC | xFD
  deriving DecidableEq, Repr

/-- The rows of spec/opcode_table.json, one constructor each, with the immediate the row takes: first the rows with an
immediate, then the other primary slots, then the 256 extended slots (R100, R108, R109). STOP carries the byte it fetches and ignores (R272). `prefixCb` is the row of the prefix,
which is not an instruction by itself (R276). -/
inductive Instr where
  | ldBcNn (nn : Word)
  | ldBN (n : Byte)
  | ldIndNnSp (nn : Word)
  | ldCN (n : Byte)
  | stop (n : Byte)
  | ldDeNn (nn : Word)
  | ldDN (n : Byte)
  | jrE (e : Byte)
  | ldEN (n : Byte)
  | jrNzE (e : Byte)
  | ldHlNn (nn : Word)
  | ldHN (n : Byte)
  | jrZE (e : Byte)
  | ldLN (n : Byte)
  | jrNcE (e : Byte)
  | ldSpNn (nn : Word)
  | ldIndHlN (n : Byte)
  | jrCE (e : Byte)
  | ldAN (n : Byte)
  | jpNzNn (nn : Word)
  | jpNn (nn : Word)
  | callNzNn (nn : Word)
  | addAN (n : Byte)
  | jpZNn (nn : Word)
  | callZNn (nn : Word)
  | callNn (nn : Word)
  | adcAN (n : Byte)
  | jpNcNn (nn : Word)
  | callNcNn (nn : Word)
  | subN (n : Byte)
  | jpCNn (nn : Word)
  | callCNn (nn : Word)
  | sbcAN (n : Byte)
  | ldhIndNA (n : Byte)
  | andN (n : Byte)
  | addSpE (e : Byte)
  | ldIndNnA (nn : Word)
  | xorN (n : Byte)
  | ldhAIndN (n : Byte)
  | orN (n : Byte)
  | ldHlSpE (e : Byte)
  | ldAIndNn (nn : Word)
  | cpN (n : Byte)
  | nop
  | ldIndBcA
  | incBc
  | incB
  | decB
  | rlca
  | addHlBc
  | ldAIndBc
  | decBc
  | incC
  | decC
  | rrca
  | ldIndDeA
  | incDe
  | incD
  | decD
  | rla
  | addHlDe
  | ldAIndDe
  | decDe
  | incE
  | decE
  | rra
  | ldHlIncA
  | incHl
  | incH
  | decH
  | daa
  | addHlHl
  | ldAHlInc
  | decHl
  | incL
  | decL
  | cpl
  | ldHlDecA
  | incSp
  | incIndHl
  | decIndHl
  | scf
  | addHlSp
  | ldAHlDec
  | decSp
  | incA
  | decA
  | ccf
  | ldBB
  | ldBC
  | ldBD
  | ldBE
  | ldBH
  | ldBL
  | ldBIndHl
  | ldBA
  | ldCB
  | ldCC
  | ldCD
  | ldCE
  | ldCH
  | ldCL
  | ldCIndHl
  | ldCA
  | ldDB
  | ldDC
  | ldDD
  | ldDE
  | ldDH
  | ldDL
  | ldDIndHl
  | ldDA
  | ldEB
  | ldEC
  | ldED
  | ldEE
  | ldEH
  | ldEL
  | ldEIndHl
  | ldEA
  | ldHB
  | ldHC
  | ldHD
  | ldHE
  | ldHH
  | ldHL
  | ldHIndHl
  | ldHA
  | ldLB
  | ldLC
  | ldLD
  | ldLE
  | ldLH
  | ldLL
  | ldLIndHl
  | ldLA
  | ldIndHlB
  | ldIndHlC
  | ldIndHlD
  | ldIndHlE
  | ldIndHlH
  | ldIndHlL
  | halt
  | ldIndHlA
  | ldAB
  | ldAC
  | ldAD
  | ldAE
  | ldAH
  | ldAL
  | ldAIndHl
  | ldAA
  | addAB
  | addAC
  | addAD
  | addAE
  | addAH
  | addAL
  | addAIndHl
  | addAA
  | adcAB
  | adcAC
  | adcAD
  | adcAE
  | adcAH
  | adcAL
  | adcAIndHl
  | adcAA
  | subB
  | subC
  | subD
  | subE
  | subH
  | subL
  | subIndHl
  | subA
  | sbcAB
  | sbcAC
  | sbcAD
  | sbcAE
  | sbcAH
  | sbcAL
  | sbcAIndHl
  | sbcAA
  | andB
  | andC
  | andD
  | andE
  | andH
  | andL
  | andIndHl
  | andA
  | xorB
  | xorC
  | xorD
  | xorE
  | xorH
  | xorL
  | xorIndHl
  | xorA
  | orB
  | orC
  | orD
  | orE
  | orH
  | orL
  | orIndHl
  | orA
  | cpB
  | cpC
  | cpD
  | cpE
  | cpH
  | cpL
  | cpIndHl
  | cpA
  | retNz
  | popBc
  | pushBc
  | rst00h
  | retZ
  | ret
  | prefixCb
  | rst08h
  | retNc
  | popDe
  | illegalD3
  | pushDe
  | rst10h
  | retC
  | reti
  | illegalDB
  | illegalDD
  | rst18h
  | popHl
  | ldhIndCA
  | illegalE3
  | illegalE4
  | pushHl
  | rst20h
  | jpHl
  | illegalEB
  | illegalEC
  | illegalED
  | rst28h
  | popAf
  | ldhAIndC
  | di
  | illegalF4
  | pushAf
  | rst30h
  | ldSpHl
  | ei
  | illegalFC
  | illegalFD
  | rst38h
  | rlcB
  | rlcC
  | rlcD
  | rlcE
  | rlcH
  | rlcL
  | rlcIndHl
  | rlcA
  | rrcB
  | rrcC
  | rrcD
  | rrcE
  | rrcH
  | rrcL
  | rrcIndHl
  | rrcA
  | rlB
  | rlC
  | rlD
  | rlE
  | rlH
  | rlL
  | rlIndHl
  | rlA
  | rrB
  | rrC
  | rrD
  | rrE
  | rrH
  | rrL
  | rrIndHl
  | rrA
  | slaB
  | slaC
  | slaD
  | slaE
  | slaH
  | slaL
  | slaIndHl
  | slaA
  | sraB
  | sraC
  | sraD
  | sraE
  | sraH
  | sraL
  | sraIndHl
  | sraA
  | swapB
  | swapC
  | swapD
  | swapE
  | swapH
  | swapL
  | swapIndHl
  | swapA
  | srlB
  | srlC
  | srlD
  | srlE
  | srlH
  | srlL
  | srlIndHl
  | srlA
  | bit0B
  | bit0C
  | bit0D
  | bit0E
  | bit0H
  | bit0L
  | bit0IndHl
  | bit0A
  | bit1B
  | bit1C
  | bit1D
  | bit1E
  | bit1H
  | bit1L
  | bit1IndHl
  | bit1A
  | bit2B
  | bit2C
  | bit2D
  | bit2E
  | bit2H
  | bit2L
  | bit2IndHl
  | bit2A
  | bit3B
  | bit3C
  | bit3D
  | bit3E
  | bit3H
  | bit3L
  | bit3IndHl
  | bit3A
  | bit4B
  | bit4C
  | bit4D
  | bit4E
  | bit4H
  | bit4L
  | bit4IndHl
  | bit4A
  | bit5B
  | bit5C
  | bit5D
  | bit5E
  | bit5H
  | bit5L
  | bit5IndHl
  | bit5A
  | bit6B
  | bit6C
  | bit6D
  | bit6E
  | bit6H
  | bit6L
  | bit6IndHl
  | bit6A
  | bit7B
  | bit7C
  | bit7D
  | bit7E
  | bit7H
  | bit7L
  | bit7IndHl
  | bit7A
  | res0B
  | res0C
  | res0D
  | res0E
  | res0H
  | res0L
  | res0IndHl
  | res0A
  | res1B
  | res1C
  | res1D
  | res1E
  | res1H
  | res1L
  | res1IndHl
  | res1A
  | res2B
  | res2C
  | res2D
  | res2E
  | res2H
  | res2L
  | res2IndHl
  | res2A
  | res3B
  | res3C
  | res3D
  | res3E
  | res3H
  | res3L
  | res3IndHl
  | res3A
  | res4B
  | res4C
  | res4D
  | res4E
  | res4H
  | res4L
  | res4IndHl
  | res4A
  | res5B
  | res5C
  | res5D
  | res5E
  | res5H
  | res5L
  | res5IndHl
  | res5A
  | res6B
  | res6C
  | res6D
  | res6E
  | res6H
  | res6L
  | res6IndHl
  | res6A
  | res7B
  | res7C
  | res7D
  | res7E
  | res7H
  | res7L
  | res7IndHl
  | res7A
  | set0B
  | set0C
  | set0D
  | set0E
  | set0H
  | set0L
  | set0IndHl
  | set0A
  | set1B
  | set1C
  | set1D
  | set1E
  | set1H
  | set1L
  | set1IndHl
  | set1A
  | set2B
  | set2C
  | set2D
  | set2E
  | set2H
  | set2L
  | set2IndHl
  | set2A
  | set3B
  | set3C
  | set3D
  | set3E
  | set3H
  | set3L
  | set3IndHl
  | set3A
  | set4B
  | set4C
  | set4D
  | set4E
  | set4H
  | set4L
  | set4IndHl
  | set4A
  | set5B
  | set5C
  | set5D
  | set5E
  | set5H
  | set5L
  | set5IndHl
  | set5A
  | set6B
  | set6C
  | set6D
  | set6E
  | set6H
  | set6L
  | set6IndHl
  | set6A
  | set7B
  | set7C
  | set7D
  | set7E
  | set7H
  | set7L
  | set7IndHl
  | set7A
  deriving DecidableEq, Repr

/-- The pattern lines of R108 and R109: an instruction with its encoding fields read out. -/
inductive Form where
  | nop
  | ldNnSp (nn : Word)
  | stop (n : Byte)
  | jr (e : Byte)
  | jrCc (cc : Cond) (e : Byte)
  | ldPairNn (rr : Pair) (nn : Word)
  | addHl (rr : Pair)
  | ldIndA (m : Indirect)
  | ldAInd (m : Indirect)
  | incPair (rr : Pair)
  | decPair (rr : Pair)
  | inc (o : Opnd)
  | dec (o : Opnd)
  | ldRN (r : Reg8) (n : Byte)
  | ldIndN (n : Byte)
  | rlca
  | rrca
  | rla
  | rra
  | daa
  | cpl
  | scf
  | ccf
  | ldRR (r s : Reg8)
  | ldRInd (r : Reg8)
  | ldIndR (s : Reg8)
  | halt
  | alu (op : AluOp) (o : Opnd)
  | aluN (op : AluOp) (n : Byte)
  | retCc (cc : Cond)
  | ldhNA (n : Byte)
  | ldhAN (n : Byte)
  | addSpE (e : Byte)
  | ldHlSpE (e : Byte)
  | pop (qq : StackPair)
  | push (qq : StackPair)
  | ret
  | reti
  | jpHl
  | ldSpHl
  | jpCc (cc : Cond) (nn : Word)
  | ldhCA
  | ldhAC
  | ldNnA (nn : Word)
  | ldANn (nn : Word)
  | jpNn (nn : Word)
  | prefixCb
  | di
  | ei
  | callCc (cc : Cond) (nn : Word)
  | callNn (nn : Word)
  | rst (t : Idx3)
  | illegal (x : IllegalOp)
  | rot (op : RotOp) (o : Opnd)
  | bit (b : Idx3) (o : Opnd)
  | res (b : Idx3) (o : Opnd)
  | set (b : Idx3) (o : Opnd)
  deriving DecidableEq, Repr

end Sys2Proof
end

