-- ==== Sys2Proof/Machine/Ops.lean ====
section
/-! DEFINITION. The named operations over memory, registers, the bus, the bank controller and the stack, and taking an
interrupt with the return from it: every meaning is built from these. -/

namespace Sys2Proof.Machine

/-! ### Byte stores (R30) -/

/-- The byte at an offset of a store; an offset not listed reads `Memory.unlisted`. -/
def Memory.read : Memory → Nat → Byte
  | [], _ => Memory.unlisted
  | (k, v) :: m, a => if k = a then v else Memory.read m a

/-- Puts an entry at the front of a canonical list, unless it says what an unlisted offset reads. -/
def Memory.cons (a : Nat) (v : Byte) (m : Memory) : Memory :=
  if v = Memory.unlisted then m else (a, v) :: m

/-- Stores a byte at an offset and keeps the canonical form: offsets rising, no entry equal to `Memory.unlisted`. -/
def Memory.write : Memory → Nat → Byte → Memory
  | [], a, v => Memory.cons a v []
  | (k, w) :: m, a, v =>
    if a < k then Memory.cons a v ((k, w) :: m)
    else if a = k then Memory.cons a v m
    else (k, w) :: Memory.write m a v

/-- The entries rise strictly from `lo` on and none equals `Memory.unlisted`. -/
def Memory.wfFrom (lo : Nat) : Memory → Bool
  | [] => true
  | (k, v) :: m => decide (lo ≤ k) && (v != Memory.unlisted) && Memory.wfFrom (k + 1) m

/-- The canonical form of a store. -/
def Memory.wf (m : Memory) : Bool := Memory.wfFrom 0 m

/-- Every listed offset lies inside a store of `size` bytes. -/
def Memory.within (size : Nat) (m : Memory) : Bool := m.all fun c => decide (c.1 < size)

/-- The canonical store of `size` bytes with the listed contents; of two entries for one offset the first counts, and
an offset outside the store is dropped. -/
def Memory.ofCells (size : Nat) : List Host.Cell → Memory
  | [] => []
  | (k, v) :: cells =>
    if k < size then Memory.write (Memory.ofCells size cells) k v else Memory.ofCells size cells

/-! ### Registers and pairs (R20, R21, R22) -/

/-- `x[r]` (00_scope section 7). -/
def State.reg (s : State) : Reg8 → Byte
  | .b => s.b
  | .c => s.c
  | .d => s.d
  | .e => s.e
  | .h => s.h
  | .l => s.l
  | .a => s.a

/-- `x[r] <- v`. -/
def State.setReg (s : State) (r : Reg8) (v : Byte) : State :=
  match r with
  | .b => { s with b := v }
  | .c => { s with c := v }
  | .d => { s with d := v }
  | .e => { s with e := v }
  | .h => { s with h := v }
  | .l => { s with l := v }
  | .a => { s with a := v }

/-- A write of a byte to F: bits 3 to 0 are stored as 0 (R22). -/
def State.setF (s : State) (v : Byte) : State := { s with f := v &&& 0xF0 }

/-- BC (R21). -/
def State.bc (s : State) : Word := Word.join s.b s.c

/-- DE (R21). -/
def State.de (s : State) : Word := Word.join s.d s.e

/-- HL (R21). -/
def State.hl (s : State) : Word := Word.join s.h s.l

/-- AF (R21). -/
def State.af (s : State) : Word := Word.join s.a s.f

/-- `HL <- v`: both halves together (R21). -/
def State.setHl (s : State) (v : Word) : State := { s with h := v.hiByte, l := v.loByte }

/-- The pair a field read as `rr` names (R104). -/
def State.pair (s : State) : Pair → Word
  | .bc => s.bc
  | .de => s.de
  | .hl => s.hl
  | .sp => s.sp

/-- `rr <- v` (R21, R104). -/
def State.setPair (s : State) (p : Pair) (v : Word) : State :=
  match p with
  | .bc => { s with b := v.hiByte, c := v.loByte }
  | .de => { s with d := v.hiByte, e := v.loByte }
  | .hl => s.setHl v
  | .sp => { s with sp := v }

/-- The pair a field read as `qq` names (R104). -/
def State.stackPair (s : State) : StackPair → Word
  | .bc => s.bc
  | .de => s.de
  | .hl => s.hl
  | .af => s.af

/-- `qq <- v`; for AF the low byte goes through a write of F (R157, R22). -/
def State.setStackPair (s : State) (q : StackPair) (v : Word) : State :=
  match q with
  | .bc => { s with b := v.hiByte, c := v.loByte }
  | .de => { s with d := v.hiByte, e := v.loByte }
  | .hl => s.setHl v
  | .af => { s with a := v.hiByte }.setF v.loByte

/-- `pc <- v`. -/
def State.setPc (s : State) (v : Word) : State := { s with pc := v }

/-- The count the step returns (R5, R340). -/
def State.setCycles (s : State) (n : Nat) : State := { s with cycles := n }

/-- The step or instruction is over and the step returns `n` cycles (R5, R340). -/
def done (n : Nat) (s : State) : Result := .next (s.setCycles n)

/-! ### The bank controller (R72 to R82) -/

/-- `BANK_COUNT` (R10). -/
def Cartridge.bankCount (p : Cartridge) : Nat := 2 <<< p.sizeCode.val

/-- `selRomBank()` (R76 to R79). -/
def Bus.selRomBank (u : Bus) : Nat :=
  match u.cart.kind with
  | .romOnly => 1
  | .mbc1 =>
    if u.mbc.bankMode = 0 then (u.mbc.aux.toNat <<< 5) ||| u.mbc.romLow.toNat else u.mbc.romLow.toNat
  | .mbc3 => u.mbc.romLow.toNat
  | .mbc5 =>
    let c := ((u.mbc.romHigh.toNat <<< 8) ||| u.mbc.romLow.toNat) &&& (u.cart.bankCount - 1)
    if c = 0 then 1 else c

/-- `effRomBank()`: the clamp of R74. -/
def Bus.effRomBank (u : Bus) : Nat := min u.selRomBank (u.cart.bankCount - 1)

/-- `selRamBank()` (R77 to R79); the kind without banking has none and never asks. -/
def Bus.selRamBank (u : Bus) : Nat :=
  match u.cart.kind with
  | .romOnly => 0
  | .mbc1 => if u.mbc.bankMode = 1 then u.mbc.aux.toNat else 0
  | .mbc3 => u.mbc.aux.toNat
  | .mbc5 => u.mbc.aux.toNat

/-- `effRamBank()`: the clamp of R80. -/
def Bus.effRamBank (u : Bus) : Nat := min u.selRamBank (u.cart.ramBanks.val - 1)

/-- `ramOK`: external RAM answers (R80). -/
def Bus.ramOk (u : Bus) : Bool :=
  (u.cart.kind != .romOnly) && u.mbc.ramEnable && decide (0 < u.cart.ramBanks.val)

/-- The ROM bank number an MBC1 or MBC3 stores: the register's width, then the bank count, then 0 becomes 1
(R77, R78). -/
def Cartridge.coerceBank (p : Cartridge) (width : Byte) (v : Byte) : Byte :=
  let b := v &&& width &&& BitVec.ofNat 8 (p.bankCount - 1)
  if b = 0 then 1 else b

/-- `romBankWrite(a, v)` (R77, R78, R79). -/
def Bus.romBankWrite (u : Bus) (a : Word) (v : Byte) : Mbc :=
  match u.cart.kind with
  | .romOnly => u.mbc
  | .mbc1 => { u.mbc with romLow := u.cart.coerceBank 0x1F v }
  | .mbc3 => { u.mbc with romLow := u.cart.coerceBank 0x7F v }
  | .mbc5 =>
    if a.toNat ≤ 0x2FFF then { u.mbc with romLow := v } else { u.mbc with romHigh := v.setWidth 1 }

/-- `v & AUX_MASK` of the kind (R77 to R79). -/
def auxOf (k : MbcKind) (v : Byte) : BitVec 4 :=
  match k with
  | .romOnly => 0
  | .mbc1 => v.setWidth 4 &&& 0x3
  | .mbc3 => v.setWidth 4 &&& 0x3
  | .mbc5 => v.setWidth 4

/-- `mbcControlWrite(a, v)`: the controller's registers afterwards (R73, R81). -/
def Bus.mbcControlWrite (u : Bus) (a : Word) (v : Byte) : Mbc :=
  if u.cart.kind = .romOnly then u.mbc
  else if a.toNat ≤ 0x1FFF then
    { u.mbc with ramEnable := v.setWidth 4 == Config.ramEnableSentinel }
  else if a.toNat ≤ 0x3FFF then u.romBankWrite a v
  else if a.toNat ≤ 0x5FFF then { u.mbc with aux := auxOf u.cart.kind v }
  else if u.cart.kind = .mbc1 then { u.mbc with bankMode := v.setWidth 1 }
  else u.mbc

/-! ### The bus (R50 to R69) -/

/-- The eleven regions of the address space (R51). -/
inductive Region where
  | romFixed
  | romSwitch
  | vram
  | xram
  | wram
  | echo
  | oam
  | unusable
  | io
  | hram
  | ie
  deriving DecidableEq, Repr

/-- The region of an address: a function of the address alone (R51). -/
def regionOf (a : Word) : Region :=
  if a.toNat ≤ 0x3FFF then .romFixed
  else if a.toNat ≤ 0x7FFF then .romSwitch
  else if a.toNat ≤ 0x9FFF then .vram
  else if a.toNat ≤ 0xBFFF then .xram
  else if a.toNat ≤ 0xDFFF then .wram
  else if a.toNat ≤ 0xFDFF then .echo
  else if a.toNat ≤ 0xFE9F then .oam
  else if a.toNat ≤ 0xFEFF then .unusable
  else if a.toNat ≤ 0xFF7F then .io
  else if a.toNat ≤ 0xFFFE then .hram
  else .ie

/-- The offset in the ROM image that an address of the switchable window reaches (R55). -/
def Bus.romOffset (u : Bus) (a : Word) : Nat :=
  u.effRomBank * Config.romBankSize + (a.toNat - 0x4000)

/-- The offset in external RAM that an address of A000 to BFFF reaches (R80). -/
def Bus.xramOffset (u : Bus) (a : Word) : Nat :=
  u.effRamBank * Config.ramBankSize + (a.toNat - 0xA000)

/-- `read(a)` (R52): total, and changes nothing (R69). -/
def Bus.read (u : Bus) (a : Word) : Byte :=
  match regionOf a with
  | .romFixed => Memory.read u.cart.rom a.toNat
  | .romSwitch => Memory.read u.cart.rom (u.romOffset a)
  | .vram => Memory.read u.vram (a.toNat - 0x8000)
  | .xram => if u.ramOk then Memory.read u.xram (u.xramOffset a) else Config.fillOpenbus
  | .wram => Memory.read u.wram (a.toNat - 0xC000)
  | .echo => Memory.read u.wram (a.toNat - 0xE000)
  | .oam => Memory.read u.oam (a.toNat - 0xFE00)
  | .unusable => Config.fillUnusable
  | .io => Memory.read u.io (a.toNat - 0xFF00)
  | .hram => Memory.read u.hram (a.toNat - 0xFF80)
  | .ie => u.ie

/-- `write(a, v)` (R53): total; a write below 8000 is a control write (R56), and a write to unusable addresses or to
external RAM that cannot answer is discarded (R62, R80). -/
def Bus.write (u : Bus) (a : Word) (v : Byte) : Bus :=
  match regionOf a with
  | .romFixed => { u with mbc := u.mbcControlWrite a v }
  | .romSwitch => { u with mbc := u.mbcControlWrite a v }
  | .vram => { u with vram := Memory.write u.vram (a.toNat - 0x8000) v }
  | .xram => if u.ramOk then { u with xram := Memory.write u.xram (u.xramOffset a) v } else u
  | .wram => { u with wram := Memory.write u.wram (a.toNat - 0xC000) v }
  | .echo => { u with wram := Memory.write u.wram (a.toNat - 0xE000) v }
  | .oam => { u with oam := Memory.write u.oam (a.toNat - 0xFE00) v }
  | .unusable => u
  | .io => { u with io := Memory.write u.io (a.toNat - 0xFF00) v }
  | .hram => { u with hram := Memory.write u.hram (a.toNat - 0xFF80) v }
  | .ie => { u with ie := v }

/-- `read(a)` in a state. -/
def State.busRead (s : State) (a : Word) : Byte := s.bus.read a

/-- `write(a, v)` in a state. -/
def State.busWrite (s : State) (a : Word) (v : Byte) : State := { s with bus := s.bus.write a v }

/-- `MemRead(a, 2)`: the byte at `a` is the low byte, the byte at `a + 1` modulo 0x10000 the high byte
(R12, R65, R66). -/
def State.busRead16 (s : State) (a : Word) : Word :=
  Word.join (s.busRead (a + 1)) (s.busRead a)

/-- `MemWrite(a, 2, v)`: the low byte at `a`, then the high byte at `a + 1` modulo 0x10000 (R12, R66). -/
def State.busWrite16 (s : State) (a : Word) (v : Word) : State :=
  (s.busWrite a v.loByte).busWrite (a + 1) v.hiByte

/-! ### Operand fetch and the stack (R12, R150, R151) -/

/-- `Fetch8()` (R12). -/
def State.fetch8 (s : State) : Byte × State := (s.busRead s.pc, { s with pc := s.pc + 1 })

/-- `Fetch16()`: low byte first (R12, R66). -/
def State.fetch16 (s : State) : Word × State :=
  let lo := s.fetch8
  let hi := lo.2.fetch8
  (Word.join hi.1 lo.1, hi.2)

/-- `Push16(v)`: the high byte first, at the higher address (R150). -/
def State.push16 (s : State) (v : Word) : State :=
  let s1 := { s with sp := s.sp - 1 }
  let s2 := s1.busWrite s1.sp v.hiByte
  let s3 := { s2 with sp := s2.sp - 1 }
  s3.busWrite s3.sp v.loByte

/-- `Pop16()`: the low byte first (R151). -/
def State.pop16 (s : State) : Word × State :=
  let lo := s.busRead s.sp
  let s1 := { s with sp := s.sp + 1 }
  let hi := s1.busRead s1.sp
  (Word.join hi lo, { s1 with sp := s1.sp + 1 })

/-! ### Interrupts: pending, priority, taking one, returning from one (R288, R289, R296 to R298, R300) -/

/-- The source's bit number in IE and IF (R288). -/
def Source.index : Source → Nat
  | .vblank => 0
  | .lcdStatus => 1
  | .timer => 2
  | .serial => 3
  | .joypad => 4

/-- The source's vector address `0x40 + 8*i` (R288, R297). -/
def Source.vector (i : Source) : Word := BitVec.ofNat 16 (0x0040 + 8 * i.index)

/-- The byte with only the source's bit set. -/
def Source.mask (i : Source) : Byte := 1#8 <<< i.index

/-- IF, the byte at `IF_ADDR` (R29). -/
def State.ifReg (s : State) : Byte := s.busRead Config.ifAddr

/-- `pending = IE & IF & 0x1F` (R296). -/
def State.pending (s : State) : Byte := s.busRead Config.ieAddr &&& s.ifReg &&& 0x1F

/-- The lowest-numbered source whose bit is set in a non-zero `pending` (R297). -/
def lowestSource (p : Byte) : Source :=
  if p.getLsbD 0 then .vblank
  else if p.getLsbD 1 then .lcdStatus
  else if p.getLsbD 2 then .timer
  else if p.getLsbD 3 then .serial
  else .joypad

/-- The return address a dispatch pushes: after `EI; HALT` took the halt bug it is HALT's own address (R298, D15). -/
def State.dispatchReturn (s : State) : Word := if s.haltBug then s.pc - 1 else s.pc

/-- `dispatch(i)`: taking an interrupt. The return address goes to the stack, IME and `imePending` are cleared, the
source's bit of IF is cleared, and control goes to the vector (R298). -/
def State.dispatch (s : State) (i : Source) : State :=
  let s1 := { s with haltBug := false }.push16 s.dispatchReturn
  let s2 := { s1 with ime := false, imePending := false }
  let s3 := s2.busWrite Config.ifAddr (s2.busRead Config.ifAddr &&& ~~~ i.mask)
  { s3 with pc := i.vector }

/-- A return: `pc <- Pop16()` (R258). -/
def State.ret (s : State) : State :=
  let v := s.pop16
  { v.2 with pc := v.1 }

/-- The return from an interrupt handler: a return that also sets IME at once and cancels a delayed enable
(R260, R300). -/
def State.retInterrupt (s : State) : State := { s.ret with ime := true, imePending := false }

end Sys2Proof.Machine
end

