-- ==== Sys2Proof/Machine/Operands.lean ====
section
/-! DEFINITION. Every operand form of the instruction set (R103 to R107, R114, R120): the 8-bit operand that may be the
byte at HL, the accumulator's indirect addresses with post-increment and post-decrement, and the conditions. -/

namespace Sys2Proof.Machine

/-- `read8(i)`: a register, or one bus read at HL (R120). -/
def State.read8 (s : State) : Opnd → Byte
  | .reg r => s.reg r
  | .indHl => s.busRead s.hl

/-- `write8(i, v)`: a register, or one bus write at HL (R120). -/
def State.write8 (s : State) (o : Opnd) (v : Byte) : State :=
  match o with
  | .reg r => s.setReg r v
  | .indHl => s.busWrite s.hl v

/-- The address of an accumulator-indirect operand (R126 to R129, R136 to R139). -/
def State.indirectAddr (s : State) : Indirect → Word
  | .bc => s.bc
  | .de => s.de
  | .hlInc => s.hl
  | .hlDec => s.hl

/-- What the addressing mode does to HL after the access (R136 to R139). -/
def State.indirectUpdate (s : State) (m : Indirect) : State :=
  match m with
  | .bc => s
  | .de => s
  | .hlInc => s.setHl (s.hl + 1)
  | .hlDec => s.setHl (s.hl - 1)

end Sys2Proof.Machine

namespace Sys2Proof

/-- The number a bit index or restart field stands for (R106). -/
def Idx3.toNat : Idx3 → Nat
  | .i0 => 0
  | .i1 => 1
  | .i2 => 2
  | .i3 => 3
  | .i4 => 4
  | .i5 => 5
  | .i6 => 6
  | .i7 => 7

/-- The operand a 3-bit field names (R103). -/
def Opnd.ofField (i : BitVec 3) : Opnd :=
  if i = 0 then .reg .b
  else if i = 1 then .reg .c
  else if i = 2 then .reg .d
  else if i = 3 then .reg .e
  else if i = 4 then .reg .h
  else if i = 5 then .reg .l
  else if i = 6 then .indHl
  else .reg .a

/-- The bit index a 3-bit field names (R106). -/
def Idx3.ofField (i : BitVec 3) : Idx3 :=
  if i = 0 then .i0
  else if i = 1 then .i1
  else if i = 2 then .i2
  else if i = 3 then .i3
  else if i = 4 then .i4
  else if i = 5 then .i5
  else if i = 6 then .i6
  else .i7

/-- The rotate or shift a 3-bit field of an extended opcode names (R224). -/
def RotOp.ofField (i : BitVec 3) : RotOp :=
  if i = 0 then .rlc
  else if i = 1 then .rrc
  else if i = 2 then .rl
  else if i = 3 then .rr
  else if i = 4 then .sla
  else if i = 5 then .sra
  else if i = 6 then .swap
  else .srl

/-- The target address `t * 8` of a restart (R106, R261). -/
def Idx3.rstTarget (t : Idx3) : Word := BitVec.ofNat 16 (8 * t.toNat)

end Sys2Proof
end

