-- ==== Sys2Proof/Machine/Flags.lean ====
section
/-! DEFINITION. The flags of F and every flag computation of the spec: R22, R155, R165 to R167, R192 to R199, R210,
R213, R220 to R224, and the conditions of R105 and R250. -/

namespace Sys2Proof.Machine

/-- F.Z (R22). -/
def State.flagZ (s : State) : Bool := s.f.getLsbD 7

/-- F.N (R22). -/
def State.flagN (s : State) : Bool := s.f.getLsbD 6

/-- F.H (R22). -/
def State.flagH (s : State) : Bool := s.f.getLsbD 5

/-- F.C (R22). -/
def State.flagC (s : State) : Bool := s.f.getLsbD 4

/-- The byte of F with the given flags: Z, N, H, C in bits 7 to 4, the rest 0 (R22). -/
def flagByte (z n h c : Bool) : Byte :=
  (if z then 0x80 else 0x00) ||| (if n then 0x40 else 0x00) ||| (if h then 0x20 else 0x00) ||| (if c then 0x10 else 0x00)

/-- A flag line `Z N H C = z n h c` (00_scope section 7). -/
def State.setFlags (s : State) (z n h c : Bool) : State := s.setF (flagByte z n h c)

/-- `cond(cc)` (R105, R250). -/
def State.cond (s : State) : Cond → Bool
  | .nz => !s.flagZ
  | .z => s.flagZ
  | .nc => !s.flagC
  | .c => s.flagC

/-- A result byte with its four flags. -/
structure Alu where
  res : Byte
  z : Bool
  n : Bool
  h : Bool
  c : Bool
  deriving DecidableEq, Repr

/-- `add8(a, b, cin)` (R165). -/
def add8 (a b : Byte) (cin : Bool) : Alu :=
  let s := a.toNat + b.toNat + cin.toNat
  let res := BitVec.ofNat 8 s
  { res := res
    z := res == 0
    n := false
    h := decide ((a &&& 0x0F).toNat + (b &&& 0x0F).toNat + cin.toNat > 0x0F)
    c := decide (s > 0xFF) }

/-- `sub8(a, b, cin)` (R166). -/
def sub8 (a b : Byte) (cin : Bool) : Alu :=
  let res := a - b - BitVec.ofNat 8 cin.toNat
  { res := res
    z := res == 0
    n := true
    h := decide ((a &&& 0x0F).toNat < (b &&& 0x0F).toNat + cin.toNat)
    c := decide (a.toNat < b.toNat + cin.toNat) }

/-- A logical result: Z from the result, H as the table of R167 forces it, N and C cleared. -/
def logic8 (res : Byte) (h : Bool) : Alu :=
  { res := res, z := res == 0, n := false, h := h, c := false }

/-- The eight accumulator operations on A, an operand byte and the carry flag (R168 to R191). CP computes what SUB
does; that A keeps its value is `State.alu`'s. -/
def aluCompute (op : AluOp) (a v : Byte) (cy : Bool) : Alu :=
  match op with
  | .add => add8 a v false
  | .adc => add8 a v cy
  | .sub => sub8 a v false
  | .sbc => sub8 a v cy
  | .and => logic8 (a &&& v) true
  | .xor => logic8 (a ^^^ v) false
  | .or => logic8 (a ||| v) false
  | .cp => sub8 a v false

/-- The half carry of an increment (R192). -/
def incHalf (v : Byte) : Bool := (v &&& 0x0F) == 0x0F

/-- The half borrow of a decrement (R194). -/
def decHalf (v : Byte) : Bool := (v &&& 0x0F) == 0x00

/-- `DAA`: the adjusted accumulator and the new carry (R196). -/
def daa (a : Byte) (n h c : Bool) : Byte × Bool :=
  if n then
    let a1 := if c then a - 0x60 else a
    (if h then a1 - 0x06 else a1, c)
  else
    let fix6 := c || decide (a.toNat > 0x99)
    let a1 := if fix6 then a + 0x60 else a
    (if h || decide ((a &&& 0x0F).toNat > 9) then a1 + 0x06 else a1, fix6)

/-- Carry out of bit 11 of a 16-bit addition (R210). -/
def half16 (a b : Word) : Bool := decide ((a &&& 0x0FFF).toNat + (b &&& 0x0FFF).toNat > 0x0FFF)

/-- Carry out of bit 15 of a 16-bit addition (R210). -/
def carry16 (a b : Word) : Bool := decide (a.toNat + b.toNat > 0xFFFF)

/-- Carry out of bit 3 of adding the unsigned byte `e` to the low byte of SP (R155, R213). -/
def spHalf (sp : Word) (e : Byte) : Bool := decide ((sp &&& 0x000F).toNat + (e &&& 0x0F).toNat > 0x0F)

/-- Carry out of bit 7 of adding the unsigned byte `e` to the low byte of SP (R155, R213). -/
def spCarry (sp : Word) (e : Byte) : Bool := decide ((sp &&& 0x00FF).toNat + e.toNat > 0xFF)

/-- A bit as a byte 0 or 1. -/
def bitByte (b : Bool) : Byte := if b then 1 else 0

/-- The eight shift functions on a byte and the old carry: the result and the new carry (R224). -/
def rotCompute (op : RotOp) (v : Byte) (cy : Bool) : Byte × Bool :=
  match op with
  | .rlc => ((v <<< 1) ||| bitByte (v.getLsbD 7), v.getLsbD 7)
  | .rrc => ((v >>> 1) ||| (bitByte (v.getLsbD 0) <<< 7), v.getLsbD 0)
  | .rl => ((v <<< 1) ||| bitByte cy, v.getLsbD 7)
  | .rr => ((v >>> 1) ||| (bitByte cy <<< 7), v.getLsbD 0)
  | .sla => (v <<< 1, v.getLsbD 7)
  | .sra => ((v >>> 1) ||| (v &&& 0x80), v.getLsbD 0)
  | .swap => (((v &&& 0x0F) <<< 4) ||| (v >>> 4), false)
  | .srl => (v >>> 1, v.getLsbD 0)

end Sys2Proof.Machine
end

