-- ==== Sys2Proof/Machine/Alu16.lean ====
section
/-! DEFINITION. 16-bit arithmetic (43_alu16 R210 to R213). -/

namespace Sys2Proof.Machine

/-- HL takes HL plus a pair; Z is kept, H and C are the carries out of bits 11 and 15 (R210). -/
def addHlPair (rr : Pair) (s : State) : State :=
  (s.setHl (s.hl + s.pair rr)).setFlags s.flagZ false (half16 s.hl (s.pair rr)) (carry16 s.hl (s.pair rr))

/-- A pair plus one, no flag (R211). -/
def incPair (rr : Pair) (s : State) : State := s.setPair rr (s.pair rr + 1)

/-- A pair minus one, no flag (R212). -/
def decPair (rr : Pair) (s : State) : State := s.setPair rr (s.pair rr - 1)

/-- SP plus the signed displacement; H and C are the carries of the unsigned byte (R213). -/
def addSpDisp (e : Byte) (s : State) : State :=
  { s with sp := s.sp + e.sext }.setFlags false false (spHalf s.sp e) (spCarry s.sp e)

/-- `INC BC` (R211). -/
def execIncBc (s : State) : Result := done 8 (incPair .bc s)

/-- `ADD HL,BC` (R210). -/
def execAddHlBc (s : State) : Result := done 8 (addHlPair .bc s)

/-- `DEC BC` (R212). -/
def execDecBc (s : State) : Result := done 8 (decPair .bc s)

/-- `INC DE` (R211). -/
def execIncDe (s : State) : Result := done 8 (incPair .de s)

/-- `ADD HL,DE` (R210). -/
def execAddHlDe (s : State) : Result := done 8 (addHlPair .de s)

/-- `DEC DE` (R212). -/
def execDecDe (s : State) : Result := done 8 (decPair .de s)

/-- `INC HL` (R211). -/
def execIncHl (s : State) : Result := done 8 (incPair .hl s)

/-- `ADD HL,HL` (R210). -/
def execAddHlHl (s : State) : Result := done 8 (addHlPair .hl s)

/-- `DEC HL` (R212). -/
def execDecHl (s : State) : Result := done 8 (decPair .hl s)

/-- `INC SP` (R211). -/
def execIncSp (s : State) : Result := done 8 (incPair .sp s)

/-- `ADD HL,SP` (R210). -/
def execAddHlSp (s : State) : Result := done 8 (addHlPair .sp s)

/-- `DEC SP` (R212). -/
def execDecSp (s : State) : Result := done 8 (decPair .sp s)

/-- `ADD SP,e` (R213). -/
def execAddSpE (e : Byte) (s : State) : Result := done 16 (addSpDisp e s)

end Sys2Proof.Machine
end

