-- ==== Sys2Proof/Machine/Alu8.lean ====
section
/-! DEFINITION. 8-bit arithmetic and logic (42_alu8 R168 to R199). -/

namespace Sys2Proof.Machine

/-- An accumulator operation on A and an operand byte: CP leaves A, the others store the result in it (R168 to R191). -/
def aluByte (op : AluOp) (v : Byte) (s : State) : State :=
  let r := aluCompute op s.a v s.flagC
  (if op = .cp then s else { s with a := r.res }).setFlags r.z r.n r.h r.c

/-- An accumulator operation on a register or the byte at HL (R168, R169 and so on to R190). -/
def aluOperand (op : AluOp) (o : Opnd) (s : State) : State := aluByte op (s.read8 o) s

/-- `INC` of a register or of the byte at HL; C is kept (R192, R193). -/
def incOperand (o : Opnd) (s : State) : State :=
  let v := s.read8 o
  (s.write8 o (v + 1)).setFlags (v + 1 == 0) false (incHalf v) s.flagC

/-- `DEC` of a register or of the byte at HL; C is kept (R194, R195). -/
def decOperand (o : Opnd) (s : State) : State :=
  let v := s.read8 o
  (s.write8 o (v - 1)).setFlags (v - 1 == 0) true (decHalf v) s.flagC

/-- Decimal adjust; N is kept and H cleared (R196). -/
def decimalAdjust (s : State) : State :=
  let r := daa s.a s.flagN s.flagH s.flagC
  { s with a := r.1 }.setFlags (r.1 == 0) s.flagN false r.2

/-- Complement of A; Z and C are kept (R197). -/
def complementA (s : State) : State := { s with a := s.a ^^^ 0xFF }.setFlags s.flagZ true true s.flagC

/-- The carry flag set; Z is kept (R198). -/
def setCarry (s : State) : State := s.setFlags s.flagZ false false true

/-- The carry flag complemented; Z is kept (R199). -/
def complementCarry (s : State) : State := s.setFlags s.flagZ false false (!s.flagC)

/-- `INC B` (R192). -/
def execIncB (s : State) : Result := done 4 (incOperand (.reg .b) s)

/-- `DEC B` (R194). -/
def execDecB (s : State) : Result := done 4 (decOperand (.reg .b) s)

/-- `INC C` (R192). -/
def execIncC (s : State) : Result := done 4 (incOperand (.reg .c) s)

/-- `DEC C` (R194). -/
def execDecC (s : State) : Result := done 4 (decOperand (.reg .c) s)

/-- `INC D` (R192). -/
def execIncD (s : State) : Result := done 4 (incOperand (.reg .d) s)

/-- `DEC D` (R194). -/
def execDecD (s : State) : Result := done 4 (decOperand (.reg .d) s)

/-- `INC E` (R192). -/
def execIncE (s : State) : Result := done 4 (incOperand (.reg .e) s)

/-- `DEC E` (R194). -/
def execDecE (s : State) : Result := done 4 (decOperand (.reg .e) s)

/-- `INC H` (R192). -/
def execIncH (s : State) : Result := done 4 (incOperand (.reg .h) s)

/-- `DEC H` (R194). -/
def execDecH (s : State) : Result := done 4 (decOperand (.reg .h) s)

/-- `DAA` (R196). -/
def execDaa (s : State) : Result := done 4 (decimalAdjust s)

/-- `INC L` (R192). -/
def execIncL (s : State) : Result := done 4 (incOperand (.reg .l) s)

/-- `DEC L` (R194). -/
def execDecL (s : State) : Result := done 4 (decOperand (.reg .l) s)

/-- `CPL` (R197). -/
def execCpl (s : State) : Result := done 4 (complementA s)

/-- `INC (HL)` (R193). -/
def execIncIndHl (s : State) : Result := done 12 (incOperand .indHl s)

/-- `DEC (HL)` (R195). -/
def execDecIndHl (s : State) : Result := done 12 (decOperand .indHl s)

/-- `SCF` (R198). -/
def execScf (s : State) : Result := done 4 (setCarry s)

/-- `INC A` (R192). -/
def execIncA (s : State) : Result := done 4 (incOperand (.reg .a) s)

/-- `DEC A` (R194). -/
def execDecA (s : State) : Result := done 4 (decOperand (.reg .a) s)

/-- `CCF` (R199). -/
def execCcf (s : State) : Result := done 4 (complementCarry s)

/-- `ADD A,B` (R168). -/
def execAddAB (s : State) : Result := done 4 (aluOperand .add (.reg .b) s)

/-- `ADD A,C` (R168). -/
def execAddAC (s : State) : Result := done 4 (aluOperand .add (.reg .c) s)

/-- `ADD A,D` (R168). -/
def execAddAD (s : State) : Result := done 4 (aluOperand .add (.reg .d) s)

/-- `ADD A,E` (R168). -/
def execAddAE (s : State) : Result := done 4 (aluOperand .add (.reg .e) s)

/-- `ADD A,H` (R168). -/
def execAddAH (s : State) : Result := done 4 (aluOperand .add (.reg .h) s)

/-- `ADD A,L` (R168). -/
def execAddAL (s : State) : Result := done 4 (aluOperand .add (.reg .l) s)

/-- `ADD A,(HL)` (R169). -/
def execAddAIndHl (s : State) : Result := done 8 (aluOperand .add .indHl s)

/-- `ADD A,A` (R168). -/
def execAddAA (s : State) : Result := done 4 (aluOperand .add (.reg .a) s)

/-- `ADC A,B` (R171). -/
def execAdcAB (s : State) : Result := done 4 (aluOperand .adc (.reg .b) s)

/-- `ADC A,C` (R171). -/
def execAdcAC (s : State) : Result := done 4 (aluOperand .adc (.reg .c) s)

/-- `ADC A,D` (R171). -/
def execAdcAD (s : State) : Result := done 4 (aluOperand .adc (.reg .d) s)

/-- `ADC A,E` (R171). -/
def execAdcAE (s : State) : Result := done 4 (aluOperand .adc (.reg .e) s)

/-- `ADC A,H` (R171). -/
def execAdcAH (s : State) : Result := done 4 (aluOperand .adc (.reg .h) s)

/-- `ADC A,L` (R171). -/
def execAdcAL (s : State) : Result := done 4 (aluOperand .adc (.reg .l) s)

/-- `ADC A,(HL)` (R172). -/
def execAdcAIndHl (s : State) : Result := done 8 (aluOperand .adc .indHl s)

/-- `ADC A,A` (R171). -/
def execAdcAA (s : State) : Result := done 4 (aluOperand .adc (.reg .a) s)

/-- `SUB B` (R174). -/
def execSubB (s : State) : Result := done 4 (aluOperand .sub (.reg .b) s)

/-- `SUB C` (R174). -/
def execSubC (s : State) : Result := done 4 (aluOperand .sub (.reg .c) s)

/-- `SUB D` (R174). -/
def execSubD (s : State) : Result := done 4 (aluOperand .sub (.reg .d) s)

/-- `SUB E` (R174). -/
def execSubE (s : State) : Result := done 4 (aluOperand .sub (.reg .e) s)

/-- `SUB H` (R174). -/
def execSubH (s : State) : Result := done 4 (aluOperand .sub (.reg .h) s)

/-- `SUB L` (R174). -/
def execSubL (s : State) : Result := done 4 (aluOperand .sub (.reg .l) s)

/-- `SUB (HL)` (R175). -/
def execSubIndHl (s : State) : Result := done 8 (aluOperand .sub .indHl s)

/-- `SUB A` (R174). -/
def execSubA (s : State) : Result := done 4 (aluOperand .sub (.reg .a) s)

/-- `SBC A,B` (R177). -/
def execSbcAB (s : State) : Result := done 4 (aluOperand .sbc (.reg .b) s)

/-- `SBC A,C` (R177). -/
def execSbcAC (s : State) : Result := done 4 (aluOperand .sbc (.reg .c) s)

/-- `SBC A,D` (R177). -/
def execSbcAD (s : State) : Result := done 4 (aluOperand .sbc (.reg .d) s)

/-- `SBC A,E` (R177). -/
def execSbcAE (s : State) : Result := done 4 (aluOperand .sbc (.reg .e) s)

/-- `SBC A,H` (R177). -/
def execSbcAH (s : State) : Result := done 4 (aluOperand .sbc (.reg .h) s)

/-- `SBC A,L` (R177). -/
def execSbcAL (s : State) : Result := done 4 (aluOperand .sbc (.reg .l) s)

/-- `SBC A,(HL)` (R178). -/
def execSbcAIndHl (s : State) : Result := done 8 (aluOperand .sbc .indHl s)

/-- `SBC A,A` (R177). -/
def execSbcAA (s : State) : Result := done 4 (aluOperand .sbc (.reg .a) s)

/-- `AND B` (R180). -/
def execAndB (s : State) : Result := done 4 (aluOperand .and (.reg .b) s)

/-- `AND C` (R180). -/
def execAndC (s : State) : Result := done 4 (aluOperand .and (.reg .c) s)

/-- `AND D` (R180). -/
def execAndD (s : State) : Result := done 4 (aluOperand .and (.reg .d) s)

/-- `AND E` (R180). -/
def execAndE (s : State) : Result := done 4 (aluOperand .and (.reg .e) s)

/-- `AND H` (R180). -/
def execAndH (s : State) : Result := done 4 (aluOperand .and (.reg .h) s)

/-- `AND L` (R180). -/
def execAndL (s : State) : Result := done 4 (aluOperand .and (.reg .l) s)

/-- `AND (HL)` (R181). -/
def execAndIndHl (s : State) : Result := done 8 (aluOperand .and .indHl s)

/-- `AND A` (R180). -/
def execAndA (s : State) : Result := done 4 (aluOperand .and (.reg .a) s)

/-- `XOR B` (R183). -/
def execXorB (s : State) : Result := done 4 (aluOperand .xor (.reg .b) s)

/-- `XOR C` (R183). -/
def execXorC (s : State) : Result := done 4 (aluOperand .xor (.reg .c) s)

/-- `XOR D` (R183). -/
def execXorD (s : State) : Result := done 4 (aluOperand .xor (.reg .d) s)

/-- `XOR E` (R183). -/
def execXorE (s : State) : Result := done 4 (aluOperand .xor (.reg .e) s)

/-- `XOR H` (R183). -/
def execXorH (s : State) : Result := done 4 (aluOperand .xor (.reg .h) s)

/-- `XOR L` (R183). -/
def execXorL (s : State) : Result := done 4 (aluOperand .xor (.reg .l) s)

/-- `XOR (HL)` (R184). -/
def execXorIndHl (s : State) : Result := done 8 (aluOperand .xor .indHl s)

/-- `XOR A` (R183). -/
def execXorA (s : State) : Result := done 4 (aluOperand .xor (.reg .a) s)

/-- `OR B` (R186). -/
def execOrB (s : State) : Result := done 4 (aluOperand .or (.reg .b) s)

/-- `OR C` (R186). -/
def execOrC (s : State) : Result := done 4 (aluOperand .or (.reg .c) s)

/-- `OR D` (R186). -/
def execOrD (s : State) : Result := done 4 (aluOperand .or (.reg .d) s)

/-- `OR E` (R186). -/
def execOrE (s : State) : Result := done 4 (aluOperand .or (.reg .e) s)

/-- `OR H` (R186). -/
def execOrH (s : State) : Result := done 4 (aluOperand .or (.reg .h) s)

/-- `OR L` (R186). -/
def execOrL (s : State) : Result := done 4 (aluOperand .or (.reg .l) s)

/-- `OR (HL)` (R187). -/
def execOrIndHl (s : State) : Result := done 8 (aluOperand .or .indHl s)

/-- `OR A` (R186). -/
def execOrA (s : State) : Result := done 4 (aluOperand .or (.reg .a) s)

/-- `CP B` (R189). -/
def execCpB (s : State) : Result := done 4 (aluOperand .cp (.reg .b) s)

/-- `CP C` (R189). -/
def execCpC (s : State) : Result := done 4 (aluOperand .cp (.reg .c) s)

/-- `CP D` (R189). -/
def execCpD (s : State) : Result := done 4 (aluOperand .cp (.reg .d) s)

/-- `CP E` (R189). -/
def execCpE (s : State) : Result := done 4 (aluOperand .cp (.reg .e) s)

/-- `CP H` (R189). -/
def execCpH (s : State) : Result := done 4 (aluOperand .cp (.reg .h) s)

/-- `CP L` (R189). -/
def execCpL (s : State) : Result := done 4 (aluOperand .cp (.reg .l) s)

/-- `CP (HL)` (R190). -/
def execCpIndHl (s : State) : Result := done 8 (aluOperand .cp .indHl s)

/-- `CP A` (R189). -/
def execCpA (s : State) : Result := done 4 (aluOperand .cp (.reg .a) s)

/-- `ADD A,n` (R170). -/
def execAddAN (n : Byte) (s : State) : Result := done 8 (aluByte .add n s)

/-- `ADC A,n` (R173). -/
def execAdcAN (n : Byte) (s : State) : Result := done 8 (aluByte .adc n s)

/-- `SUB n` (R176). -/
def execSubN (n : Byte) (s : State) : Result := done 8 (aluByte .sub n s)

/-- `SBC A,n` (R179). -/
def execSbcAN (n : Byte) (s : State) : Result := done 8 (aluByte .sbc n s)

/-- `AND n` (R182). -/
def execAndN (n : Byte) (s : State) : Result := done 8 (aluByte .and n s)

/-- `XOR n` (R185). -/
def execXorN (n : Byte) (s : State) : Result := done 8 (aluByte .xor n s)

/-- `OR n` (R188). -/
def execOrN (n : Byte) (s : State) : Result := done 8 (aluByte .or n s)

/-- `CP n` (R191). -/
def execCpN (n : Byte) (s : State) : Result := done 8 (aluByte .cp n s)

end Sys2Proof.Machine
end

