-- ==== Sys2Proof/Machine/Control.lean ====
section
/-! DEFINITION. Jumps, calls, returns and restarts (45_control R251 to R261). No instruction here writes a flag. PC already holds
the address of the next instruction when a meaning starts. -/

namespace Sys2Proof.Machine

/-- A conditional transfer: with the condition true it acts and costs the larger count (R250, R340). -/
def branch (cc : Cond) (notTaken taken : Nat) (act : State → State) (s : State) : Result :=
  if s.cond cc then done taken (act s) else done notTaken s

/-- A jump relative to the next instruction (R254). -/
def jumpRel (e : Byte) (s : State) : State := s.setPc (s.pc + e.sext)

/-- A call: the address of the next instruction is pushed (R256, R261). -/
def call (target : Word) (s : State) : State := (s.push16 s.pc).setPc target

/-- `JR e` (R254). -/
def execJrE (e : Byte) (s : State) : Result := done 12 (jumpRel e s)

/-- `JR NZ,e` (R255). -/
def execJrNzE (e : Byte) (s : State) : Result := branch .nz 8 12 (jumpRel e) s

/-- `JR Z,e` (R255). -/
def execJrZE (e : Byte) (s : State) : Result := branch .z 8 12 (jumpRel e) s

/-- `JR NC,e` (R255). -/
def execJrNcE (e : Byte) (s : State) : Result := branch .nc 8 12 (jumpRel e) s

/-- `JR C,e` (R255). -/
def execJrCE (e : Byte) (s : State) : Result := branch .c 8 12 (jumpRel e) s

/-- `RET NZ` (R259). -/
def execRetNz (s : State) : Result := branch .nz 8 20 (fun s => s.ret) s

/-- `JP NZ,nn` (R252). -/
def execJpNzNn (nn : Word) (s : State) : Result := branch .nz 12 16 (fun s => s.setPc nn) s

/-- `JP nn` (R251). -/
def execJpNn (nn : Word) (s : State) : Result := done 16 (s.setPc nn)

/-- `CALL NZ,nn` (R257). -/
def execCallNzNn (nn : Word) (s : State) : Result := branch .nz 12 24 (call nn) s

/-- `RST 00h` (R261). -/
def execRst00h (s : State) : Result := done 16 (call (Idx3.rstTarget .i0) s)

/-- `RET Z` (R259). -/
def execRetZ (s : State) : Result := branch .z 8 20 (fun s => s.ret) s

/-- `RET` (R258). -/
def execRet (s : State) : Result := done 16 s.ret

/-- `JP Z,nn` (R252). -/
def execJpZNn (nn : Word) (s : State) : Result := branch .z 12 16 (fun s => s.setPc nn) s

/-- `CALL Z,nn` (R257). -/
def execCallZNn (nn : Word) (s : State) : Result := branch .z 12 24 (call nn) s

/-- `CALL nn` (R256). -/
def execCallNn (nn : Word) (s : State) : Result := done 24 (call nn s)

/-- `RST 08h` (R261). -/
def execRst08h (s : State) : Result := done 16 (call (Idx3.rstTarget .i1) s)

/-- `RET NC` (R259). -/
def execRetNc (s : State) : Result := branch .nc 8 20 (fun s => s.ret) s

/-- `JP NC,nn` (R252). -/
def execJpNcNn (nn : Word) (s : State) : Result := branch .nc 12 16 (fun s => s.setPc nn) s

/-- `CALL NC,nn` (R257). -/
def execCallNcNn (nn : Word) (s : State) : Result := branch .nc 12 24 (call nn) s

/-- `RST 10h` (R261). -/
def execRst10h (s : State) : Result := done 16 (call (Idx3.rstTarget .i2) s)

/-- `RET C` (R259). -/
def execRetC (s : State) : Result := branch .c 8 20 (fun s => s.ret) s

/-- `RETI` (R260). -/
def execReti (s : State) : Result := done 16 s.retInterrupt

/-- `JP C,nn` (R252). -/
def execJpCNn (nn : Word) (s : State) : Result := branch .c 12 16 (fun s => s.setPc nn) s

/-- `CALL C,nn` (R257). -/
def execCallCNn (nn : Word) (s : State) : Result := branch .c 12 24 (call nn) s

/-- `RST 18h` (R261). -/
def execRst18h (s : State) : Result := done 16 (call (Idx3.rstTarget .i3) s)

/-- `RST 20h` (R261). -/
def execRst20h (s : State) : Result := done 16 (call (Idx3.rstTarget .i4) s)

/-- `JP HL` (R253). -/
def execJpHl (s : State) : Result := done 4 (s.setPc s.hl)

/-- `RST 28h` (R261). -/
def execRst28h (s : State) : Result := done 16 (call (Idx3.rstTarget .i5) s)

/-- `RST 30h` (R261). -/
def execRst30h (s : State) : Result := done 16 (call (Idx3.rstTarget .i6) s)

/-- `RST 38h` (R261). -/
def execRst38h (s : State) : Result := done 16 (call (Idx3.rstTarget .i7) s)

end Sys2Proof.Machine
end

