-- ==== Sys2Proof/Machine/Load16.lean ====
section
/-! DEFINITION. 16-bit loads, PUSH and POP (41_load16 R152 to R157). Only `LD HL,SP+e` and `POP AF` write flags. -/

namespace Sys2Proof.Machine

/-- A pair takes an immediate (R152). -/
def ldPairImm (rr : Pair) (nn : Word) (s : State) : State := s.setPair rr nn

/-- SP is stored at `nn` and `nn + 1`, low byte first (R153). -/
def ldAddrSp (nn : Word) (s : State) : State := s.busWrite16 nn s.sp

/-- SP takes HL (R154). -/
def ldSpFromHl (s : State) : State := { s with sp := s.hl }

/-- HL takes SP plus the signed displacement; H and C are the carries of the unsigned byte (R155). -/
def ldHlSpDisp (e : Byte) (s : State) : State :=
  (s.setHl (s.sp + e.sext)).setFlags false false (spHalf s.sp e) (spCarry s.sp e)

/-- The pair is pushed (R156). -/
def pushPair (qq : StackPair) (s : State) : State := s.push16 (s.stackPair qq)

/-- The pair takes the popped word; for AF the low nibble of F is dropped (R157). -/
def popPair (qq : StackPair) (s : State) : State :=
  let v := s.pop16
  v.2.setStackPair qq v.1

/-- `LD BC,nn` (R152). -/
def execLdBcNn (nn : Word) (s : State) : Result := done 12 (ldPairImm .bc nn s)

/-- `LD (nn),SP` (R153). -/
def execLdIndNnSp (nn : Word) (s : State) : Result := done 20 (ldAddrSp nn s)

/-- `LD DE,nn` (R152). -/
def execLdDeNn (nn : Word) (s : State) : Result := done 12 (ldPairImm .de nn s)

/-- `LD HL,nn` (R152). -/
def execLdHlNn (nn : Word) (s : State) : Result := done 12 (ldPairImm .hl nn s)

/-- `LD SP,nn` (R152). -/
def execLdSpNn (nn : Word) (s : State) : Result := done 12 (ldPairImm .sp nn s)

/-- `POP BC` (R157). -/
def execPopBc (s : State) : Result := done 12 (popPair .bc s)

/-- `PUSH BC` (R156). -/
def execPushBc (s : State) : Result := done 16 (pushPair .bc s)

/-- `POP DE` (R157). -/
def execPopDe (s : State) : Result := done 12 (popPair .de s)

/-- `PUSH DE` (R156). -/
def execPushDe (s : State) : Result := done 16 (pushPair .de s)

/-- `POP HL` (R157). -/
def execPopHl (s : State) : Result := done 12 (popPair .hl s)

/-- `PUSH HL` (R156). -/
def execPushHl (s : State) : Result := done 16 (pushPair .hl s)

/-- `POP AF` (R157). -/
def execPopAf (s : State) : Result := done 12 (popPair .af s)

/-- `PUSH AF` (R156). -/
def execPushAf (s : State) : Result := done 16 (pushPair .af s)

/-- `LD HL,SP+e` (R155). -/
def execLdHlSpE (e : Byte) (s : State) : Result := done 12 (ldHlSpDisp e s)

/-- `LD SP,HL` (R154). -/
def execLdSpHl (s : State) : Result := done 8 (ldSpFromHl s)

end Sys2Proof.Machine
end

