-- ==== Sys2Proof/Machine/Load8.lean ====
section
/-! DEFINITION. 8-bit loads and stores (40_load8 R121 to R139). No instruction here reads or writes a flag. -/

namespace Sys2Proof.Machine

/-- A register takes a register's byte (R121). -/
def ldRegReg (r src : Reg8) (s : State) : State := s.setReg r (s.reg src)

/-- A register takes an immediate (R122). -/
def ldRegImm (r : Reg8) (n : Byte) (s : State) : State := s.setReg r n

/-- A register takes the byte at HL (R123). -/
def ldRegInd (r : Reg8) (s : State) : State := s.setReg r (s.busRead s.hl)

/-- The byte at HL takes a register's byte (R124). -/
def ldIndReg (src : Reg8) (s : State) : State := s.busWrite s.hl (s.reg src)

/-- The byte at HL takes an immediate (R125). -/
def ldIndImm (n : Byte) (s : State) : State := s.busWrite s.hl n

/-- A takes the byte at a pair's address, and HL is stepped where the mode says so (R126, R127, R138, R139). -/
def ldAccInd (m : Indirect) (s : State) : State :=
  { s with a := s.busRead (s.indirectAddr m) }.indirectUpdate m

/-- The byte at a pair's address takes A, and HL is stepped where the mode says so (R128, R129, R136, R137). -/
def ldIndAcc (m : Indirect) (s : State) : State :=
  (s.busWrite (s.indirectAddr m) s.a).indirectUpdate m

/-- A takes the byte at an address (R130, R132, R134). -/
def ldAccAddr (addr : Word) (s : State) : State := { s with a := s.busRead addr }

/-- The byte at an address takes A (R131, R133, R135). -/
def ldAddrAcc (addr : Word) (s : State) : State := s.busWrite addr s.a

/-- `LD (BC),A` (R128). -/
def execLdIndBcA (s : State) : Result := done 8 (ldIndAcc .bc s)

/-- `LD B,n` (R122). -/
def execLdBN (n : Byte) (s : State) : Result := done 8 (ldRegImm .b n s)

/-- `LD A,(BC)` (R126). -/
def execLdAIndBc (s : State) : Result := done 8 (ldAccInd .bc s)

/-- `LD C,n` (R122). -/
def execLdCN (n : Byte) (s : State) : Result := done 8 (ldRegImm .c n s)

/-- `LD (DE),A` (R129). -/
def execLdIndDeA (s : State) : Result := done 8 (ldIndAcc .de s)

/-- `LD D,n` (R122). -/
def execLdDN (n : Byte) (s : State) : Result := done 8 (ldRegImm .d n s)

/-- `LD A,(DE)` (R127). -/
def execLdAIndDe (s : State) : Result := done 8 (ldAccInd .de s)

/-- `LD E,n` (R122). -/
def execLdEN (n : Byte) (s : State) : Result := done 8 (ldRegImm .e n s)

/-- `LD (HL+),A` (R136). -/
def execLdHlIncA (s : State) : Result := done 8 (ldIndAcc .hlInc s)

/-- `LD H,n` (R122). -/
def execLdHN (n : Byte) (s : State) : Result := done 8 (ldRegImm .h n s)

/-- `LD A,(HL+)` (R138). -/
def execLdAHlInc (s : State) : Result := done 8 (ldAccInd .hlInc s)

/-- `LD L,n` (R122). -/
def execLdLN (n : Byte) (s : State) : Result := done 8 (ldRegImm .l n s)

/-- `LD (HL-),A` (R137). -/
def execLdHlDecA (s : State) : Result := done 8 (ldIndAcc .hlDec s)

/-- `LD (HL),n` (R125). -/
def execLdIndHlN (n : Byte) (s : State) : Result := done 12 (ldIndImm n s)

/-- `LD A,(HL-)` (R139). -/
def execLdAHlDec (s : State) : Result := done 8 (ldAccInd .hlDec s)

/-- `LD A,n` (R122). -/
def execLdAN (n : Byte) (s : State) : Result := done 8 (ldRegImm .a n s)

/-- `LD B,B` (R121). -/
def execLdBB (s : State) : Result := done 4 (ldRegReg .b .b s)

/-- `LD B,C` (R121). -/
def execLdBC (s : State) : Result := done 4 (ldRegReg .b .c s)

/-- `LD B,D` (R121). -/
def execLdBD (s : State) : Result := done 4 (ldRegReg .b .d s)

/-- `LD B,E` (R121). -/
def execLdBE (s : State) : Result := done 4 (ldRegReg .b .e s)

/-- `LD B,H` (R121). -/
def execLdBH (s : State) : Result := done 4 (ldRegReg .b .h s)

/-- `LD B,L` (R121). -/
def execLdBL (s : State) : Result := done 4 (ldRegReg .b .l s)

/-- `LD B,(HL)` (R123). -/
def execLdBIndHl (s : State) : Result := done 8 (ldRegInd .b s)

/-- `LD B,A` (R121). -/
def execLdBA (s : State) : Result := done 4 (ldRegReg .b .a s)

/-- `LD C,B` (R121). -/
def execLdCB (s : State) : Result := done 4 (ldRegReg .c .b s)

/-- `LD C,C` (R121). -/
def execLdCC (s : State) : Result := done 4 (ldRegReg .c .c s)

/-- `LD C,D` (R121). -/
def execLdCD (s : State) : Result := done 4 (ldRegReg .c .d s)

/-- `LD C,E` (R121). -/
def execLdCE (s : State) : Result := done 4 (ldRegReg .c .e s)

/-- `LD C,H` (R121). -/
def execLdCH (s : State) : Result := done 4 (ldRegReg .c .h s)

/-- `LD C,L` (R121). -/
def execLdCL (s : State) : Result := done 4 (ldRegReg .c .l s)

/-- `LD C,(HL)` (R123). -/
def execLdCIndHl (s : State) : Result := done 8 (ldRegInd .c s)

/-- `LD C,A` (R121). -/
def execLdCA (s : State) : Result := done 4 (ldRegReg .c .a s)

/-- `LD D,B` (R121). -/
def execLdDB (s : State) : Result := done 4 (ldRegReg .d .b s)

/-- `LD D,C` (R121). -/
def execLdDC (s : State) : Result := done 4 (ldRegReg .d .c s)

/-- `LD D,D` (R121). -/
def execLdDD (s : State) : Result := done 4 (ldRegReg .d .d s)

/-- `LD D,E` (R121). -/
def execLdDE (s : State) : Result := done 4 (ldRegReg .d .e s)

/-- `LD D,H` (R121). -/
def execLdDH (s : State) : Result := done 4 (ldRegReg .d .h s)

/-- `LD D,L` (R121). -/
def execLdDL (s : State) : Result := done 4 (ldRegReg .d .l s)

/-- `LD D,(HL)` (R123). -/
def execLdDIndHl (s : State) : Result := done 8 (ldRegInd .d s)

/-- `LD D,A` (R121). -/
def execLdDA (s : State) : Result := done 4 (ldRegReg .d .a s)

/-- `LD E,B` (R121). -/
def execLdEB (s : State) : Result := done 4 (ldRegReg .e .b s)

/-- `LD E,C` (R121). -/
def execLdEC (s : State) : Result := done 4 (ldRegReg .e .c s)

/-- `LD E,D` (R121). -/
def execLdED (s : State) : Result := done 4 (ldRegReg .e .d s)

/-- `LD E,E` (R121). -/
def execLdEE (s : State) : Result := done 4 (ldRegReg .e .e s)

/-- `LD E,H` (R121). -/
def execLdEH (s : State) : Result := done 4 (ldRegReg .e .h s)

/-- `LD E,L` (R121). -/
def execLdEL (s : State) : Result := done 4 (ldRegReg .e .l s)

/-- `LD E,(HL)` (R123). -/
def execLdEIndHl (s : State) : Result := done 8 (ldRegInd .e s)

/-- `LD E,A` (R121). -/
def execLdEA (s : State) : Result := done 4 (ldRegReg .e .a s)

/-- `LD H,B` (R121). -/
def execLdHB (s : State) : Result := done 4 (ldRegReg .h .b s)

/-- `LD H,C` (R121). -/
def execLdHC (s : State) : Result := done 4 (ldRegReg .h .c s)

/-- `LD H,D` (R121). -/
def execLdHD (s : State) : Result := done 4 (ldRegReg .h .d s)

/-- `LD H,E` (R121). -/
def execLdHE (s : State) : Result := done 4 (ldRegReg .h .e s)

/-- `LD H,H` (R121). -/
def execLdHH (s : State) : Result := done 4 (ldRegReg .h .h s)

/-- `LD H,L` (R121). -/
def execLdHL (s : State) : Result := done 4 (ldRegReg .h .l s)

/-- `LD H,(HL)` (R123). -/
def execLdHIndHl (s : State) : Result := done 8 (ldRegInd .h s)

/-- `LD H,A` (R121). -/
def execLdHA (s : State) : Result := done 4 (ldRegReg .h .a s)

/-- `LD L,B` (R121). -/
def execLdLB (s : State) : Result := done 4 (ldRegReg .l .b s)

/-- `LD L,C` (R121). -/
def execLdLC (s : State) : Result := done 4 (ldRegReg .l .c s)

/-- `LD L,D` (R121). -/
def execLdLD (s : State) : Result := done 4 (ldRegReg .l .d s)

/-- `LD L,E` (R121). -/
def execLdLE (s : State) : Result := done 4 (ldRegReg .l .e s)

/-- `LD L,H` (R121). -/
def execLdLH (s : State) : Result := done 4 (ldRegReg .l .h s)

/-- `LD L,L` (R121). -/
def execLdLL (s : State) : Result := done 4 (ldRegReg .l .l s)

/-- `LD L,(HL)` (R123). -/
def execLdLIndHl (s : State) : Result := done 8 (ldRegInd .l s)

/-- `LD L,A` (R121). -/
def execLdLA (s : State) : Result := done 4 (ldRegReg .l .a s)

/-- `LD (HL),B` (R124). -/
def execLdIndHlB (s : State) : Result := done 8 (ldIndReg .b s)

/-- `LD (HL),C` (R124). -/
def execLdIndHlC (s : State) : Result := done 8 (ldIndReg .c s)

/-- `LD (HL),D` (R124). -/
def execLdIndHlD (s : State) : Result := done 8 (ldIndReg .d s)

/-- `LD (HL),E` (R124). -/
def execLdIndHlE (s : State) : Result := done 8 (ldIndReg .e s)

/-- `LD (HL),H` (R124). -/
def execLdIndHlH (s : State) : Result := done 8 (ldIndReg .h s)

/-- `LD (HL),L` (R124). -/
def execLdIndHlL (s : State) : Result := done 8 (ldIndReg .l s)

/-- `LD (HL),A` (R124). -/
def execLdIndHlA (s : State) : Result := done 8 (ldIndReg .a s)

/-- `LD A,B` (R121). -/
def execLdAB (s : State) : Result := done 4 (ldRegReg .a .b s)

/-- `LD A,C` (R121). -/
def execLdAC (s : State) : Result := done 4 (ldRegReg .a .c s)

/-- `LD A,D` (R121). -/
def execLdAD (s : State) : Result := done 4 (ldRegReg .a .d s)

/-- `LD A,E` (R121). -/
def execLdAE (s : State) : Result := done 4 (ldRegReg .a .e s)

/-- `LD A,H` (R121). -/
def execLdAH (s : State) : Result := done 4 (ldRegReg .a .h s)

/-- `LD A,L` (R121). -/
def execLdAL (s : State) : Result := done 4 (ldRegReg .a .l s)

/-- `LD A,(HL)` (R123). -/
def execLdAIndHl (s : State) : Result := done 8 (ldRegInd .a s)

/-- `LD A,A` (R121). -/
def execLdAA (s : State) : Result := done 4 (ldRegReg .a .a s)

/-- `LDH (n),A` (R133). -/
def execLdhIndNA (n : Byte) (s : State) : Result := done 12 (ldAddrAcc n.highPage s)

/-- `LDH (C),A` (R135). -/
def execLdhIndCA (s : State) : Result := done 8 (ldAddrAcc s.c.highPage s)

/-- `LD (nn),A` (R131). -/
def execLdIndNnA (nn : Word) (s : State) : Result := done 16 (ldAddrAcc nn s)

/-- `LDH A,(n)` (R132). -/
def execLdhAIndN (n : Byte) (s : State) : Result := done 12 (ldAccAddr n.highPage s)

/-- `LDH A,(C)` (R134). -/
def execLdhAIndC (s : State) : Result := done 8 (ldAccAddr s.c.highPage s)

/-- `LD A,(nn)` (R130). -/
def execLdAIndNn (nn : Word) (s : State) : Result := done 16 (ldAccAddr nn s)

end Sys2Proof.Machine
end

