-- ==== Sys2Proof/Machine/Bit.lean ====
section
/-! DEFINITION. Bit test, reset and set (44_rotate_bit R241 to R246). -/

namespace Sys2Proof.Machine

/-- `BIT`: Z says the bit is 0, N cleared, H set, C kept; nothing is written (R241, R242). -/
def bitTest (b : Idx3) (o : Opnd) (s : State) : State :=
  s.setFlags (!(s.read8 o).getLsbD b.toNat) false true s.flagC

/-- `RES`: the bit is cleared, no flag (R243, R244). -/
def bitReset (b : Idx3) (o : Opnd) (s : State) : State :=
  s.write8 o (s.read8 o &&& ~~~(1#8 <<< b.toNat))

/-- `SET`: the bit is set, no flag (R245, R246). -/
def bitSet (b : Idx3) (o : Opnd) (s : State) : State :=
  s.write8 o (s.read8 o ||| (1#8 <<< b.toNat))

/-- `BIT 0,B` (R241). -/
def execBit0B (s : State) : Result := done 8 (bitTest .i0 (.reg .b) s)

/-- `BIT 0,C` (R241). -/
def execBit0C (s : State) : Result := done 8 (bitTest .i0 (.reg .c) s)

/-- `BIT 0,D` (R241). -/
def execBit0D (s : State) : Result := done 8 (bitTest .i0 (.reg .d) s)

/-- `BIT 0,E` (R241). -/
def execBit0E (s : State) : Result := done 8 (bitTest .i0 (.reg .e) s)

/-- `BIT 0,H` (R241). -/
def execBit0H (s : State) : Result := done 8 (bitTest .i0 (.reg .h) s)

/-- `BIT 0,L` (R241). -/
def execBit0L (s : State) : Result := done 8 (bitTest .i0 (.reg .l) s)

/-- `BIT 0,(HL)` (R242). -/
def execBit0IndHl (s : State) : Result := done 12 (bitTest .i0 .indHl s)

/-- `BIT 0,A` (R241). -/
def execBit0A (s : State) : Result := done 8 (bitTest .i0 (.reg .a) s)

/-- `BIT 1,B` (R241). -/
def execBit1B (s : State) : Result := done 8 (bitTest .i1 (.reg .b) s)

/-- `BIT 1,C` (R241). -/
def execBit1C (s : State) : Result := done 8 (bitTest .i1 (.reg .c) s)

/-- `BIT 1,D` (R241). -/
def execBit1D (s : State) : Result := done 8 (bitTest .i1 (.reg .d) s)

/-- `BIT 1,E` (R241). -/
def execBit1E (s : State) : Result := done 8 (bitTest .i1 (.reg .e) s)

/-- `BIT 1,H` (R241). -/
def execBit1H (s : State) : Result := done 8 (bitTest .i1 (.reg .h) s)

/-- `BIT 1,L` (R241). -/
def execBit1L (s : State) : Result := done 8 (bitTest .i1 (.reg .l) s)

/-- `BIT 1,(HL)` (R242). -/
def execBit1IndHl (s : State) : Result := done 12 (bitTest .i1 .indHl s)

/-- `BIT 1,A` (R241). -/
def execBit1A (s : State) : Result := done 8 (bitTest .i1 (.reg .a) s)

/-- `BIT 2,B` (R241). -/
def execBit2B (s : State) : Result := done 8 (bitTest .i2 (.reg .b) s)

/-- `BIT 2,C` (R241). -/
def execBit2C (s : State) : Result := done 8 (bitTest .i2 (.reg .c) s)

/-- `BIT 2,D` (R241). -/
def execBit2D (s : State) : Result := done 8 (bitTest .i2 (.reg .d) s)

/-- `BIT 2,E` (R241). -/
def execBit2E (s : State) : Result := done 8 (bitTest .i2 (.reg .e) s)

/-- `BIT 2,H` (R241). -/
def execBit2H (s : State) : Result := done 8 (bitTest .i2 (.reg .h) s)

/-- `BIT 2,L` (R241). -/
def execBit2L (s : State) : Result := done 8 (bitTest .i2 (.reg .l) s)

/-- `BIT 2,(HL)` (R242). -/
def execBit2IndHl (s : State) : Result := done 12 (bitTest .i2 .indHl s)

/-- `BIT 2,A` (R241). -/
def execBit2A (s : State) : Result := done 8 (bitTest .i2 (.reg .a) s)

/-- `BIT 3,B` (R241). -/
def execBit3B (s : State) : Result := done 8 (bitTest .i3 (.reg .b) s)

/-- `BIT 3,C` (R241). -/
def execBit3C (s : State) : Result := done 8 (bitTest .i3 (.reg .c) s)

/-- `BIT 3,D` (R241). -/
def execBit3D (s : State) : Result := done 8 (bitTest .i3 (.reg .d) s)

/-- `BIT 3,E` (R241). -/
def execBit3E (s : State) : Result := done 8 (bitTest .i3 (.reg .e) s)

/-- `BIT 3,H` (R241). -/
def execBit3H (s : State) : Result := done 8 (bitTest .i3 (.reg .h) s)

/-- `BIT 3,L` (R241). -/
def execBit3L (s : State) : Result := done 8 (bitTest .i3 (.reg .l) s)

/-- `BIT 3,(HL)` (R242). -/
def execBit3IndHl (s : State) : Result := done 12 (bitTest .i3 .indHl s)

/-- `BIT 3,A` (R241). -/
def execBit3A (s : State) : Result := done 8 (bitTest .i3 (.reg .a) s)

/-- `BIT 4,B` (R241). -/
def execBit4B (s : State) : Result := done 8 (bitTest .i4 (.reg .b) s)

/-- `BIT 4,C` (R241). -/
def execBit4C (s : State) : Result := done 8 (bitTest .i4 (.reg .c) s)

/-- `BIT 4,D` (R241). -/
def execBit4D (s : State) : Result := done 8 (bitTest .i4 (.reg .d) s)

/-- `BIT 4,E` (R241). -/
def execBit4E (s : State) : Result := done 8 (bitTest .i4 (.reg .e) s)

/-- `BIT 4,H` (R241). -/
def execBit4H (s : State) : Result := done 8 (bitTest .i4 (.reg .h) s)

/-- `BIT 4,L` (R241). -/
def execBit4L (s : State) : Result := done 8 (bitTest .i4 (.reg .l) s)

/-- `BIT 4,(HL)` (R242). -/
def execBit4IndHl (s : State) : Result := done 12 (bitTest .i4 .indHl s)

/-- `BIT 4,A` (R241). -/
def execBit4A (s : State) : Result := done 8 (bitTest .i4 (.reg .a) s)

/-- `BIT 5,B` (R241). -/
def execBit5B (s : State) : Result := done 8 (bitTest .i5 (.reg .b) s)

/-- `BIT 5,C` (R241). -/
def execBit5C (s : State) : Result := done 8 (bitTest .i5 (.reg .c) s)

/-- `BIT 5,D` (R241). -/
def execBit5D (s : State) : Result := done 8 (bitTest .i5 (.reg .d) s)

/-- `BIT 5,E` (R241). -/
def execBit5E (s : State) : Result := done 8 (bitTest .i5 (.reg .e) s)

/-- `BIT 5,H` (R241). -/
def execBit5H (s : State) : Result := done 8 (bitTest .i5 (.reg .h) s)

/-- `BIT 5,L` (R241). -/
def execBit5L (s : State) : Result := done 8 (bitTest .i5 (.reg .l) s)

/-- `BIT 5,(HL)` (R242). -/
def execBit5IndHl (s : State) : Result := done 12 (bitTest .i5 .indHl s)

/-- `BIT 5,A` (R241). -/
def execBit5A (s : State) : Result := done 8 (bitTest .i5 (.reg .a) s)

/-- `BIT 6,B` (R241). -/
def execBit6B (s : State) : Result := done 8 (bitTest .i6 (.reg .b) s)

/-- `BIT 6,C` (R241). -/
def execBit6C (s : State) : Result := done 8 (bitTest .i6 (.reg .c) s)

/-- `BIT 6,D` (R241). -/
def execBit6D (s : State) : Result := done 8 (bitTest .i6 (.reg .d) s)

/-- `BIT 6,E` (R241). -/
def execBit6E (s : State) : Result := done 8 (bitTest .i6 (.reg .e) s)

/-- `BIT 6,H` (R241). -/
def execBit6H (s : State) : Result := done 8 (bitTest .i6 (.reg .h) s)

/-- `BIT 6,L` (R241). -/
def execBit6L (s : State) : Result := done 8 (bitTest .i6 (.reg .l) s)

/-- `BIT 6,(HL)` (R242). -/
def execBit6IndHl (s : State) : Result := done 12 (bitTest .i6 .indHl s)

/-- `BIT 6,A` (R241). -/
def execBit6A (s : State) : Result := done 8 (bitTest .i6 (.reg .a) s)

/-- `BIT 7,B` (R241). -/
def execBit7B (s : State) : Result := done 8 (bitTest .i7 (.reg .b) s)

/-- `BIT 7,C` (R241). -/
def execBit7C (s : State) : Result := done 8 (bitTest .i7 (.reg .c) s)

/-- `BIT 7,D` (R241). -/
def execBit7D (s : State) : Result := done 8 (bitTest .i7 (.reg .d) s)

/-- `BIT 7,E` (R241). -/
def execBit7E (s : State) : Result := done 8 (bitTest .i7 (.reg .e) s)

/-- `BIT 7,H` (R241). -/
def execBit7H (s : State) : Result := done 8 (bitTest .i7 (.reg .h) s)

/-- `BIT 7,L` (R241). -/
def execBit7L (s : State) : Result := done 8 (bitTest .i7 (.reg .l) s)

/-- `BIT 7,(HL)` (R242). -/
def execBit7IndHl (s : State) : Result := done 12 (bitTest .i7 .indHl s)

/-- `BIT 7,A` (R241). -/
def execBit7A (s : State) : Result := done 8 (bitTest .i7 (.reg .a) s)

/-- `RES 0,B` (R243). -/
def execRes0B (s : State) : Result := done 8 (bitReset .i0 (.reg .b) s)

/-- `RES 0,C` (R243). -/
def execRes0C (s : State) : Result := done 8 (bitReset .i0 (.reg .c) s)

/-- `RES 0,D` (R243). -/
def execRes0D (s : State) : Result := done 8 (bitReset .i0 (.reg .d) s)

/-- `RES 0,E` (R243). -/
def execRes0E (s : State) : Result := done 8 (bitReset .i0 (.reg .e) s)

/-- `RES 0,H` (R243). -/
def execRes0H (s : State) : Result := done 8 (bitReset .i0 (.reg .h) s)

/-- `RES 0,L` (R243). -/
def execRes0L (s : State) : Result := done 8 (bitReset .i0 (.reg .l) s)

/-- `RES 0,(HL)` (R244). -/
def execRes0IndHl (s : State) : Result := done 16 (bitReset .i0 .indHl s)

/-- `RES 0,A` (R243). -/
def execRes0A (s : State) : Result := done 8 (bitReset .i0 (.reg .a) s)

/-- `RES 1,B` (R243). -/
def execRes1B (s : State) : Result := done 8 (bitReset .i1 (.reg .b) s)

/-- `RES 1,C` (R243). -/
def execRes1C (s : State) : Result := done 8 (bitReset .i1 (.reg .c) s)

/-- `RES 1,D` (R243). -/
def execRes1D (s : State) : Result := done 8 (bitReset .i1 (.reg .d) s)

/-- `RES 1,E` (R243). -/
def execRes1E (s : State) : Result := done 8 (bitReset .i1 (.reg .e) s)

/-- `RES 1,H` (R243). -/
def execRes1H (s : State) : Result := done 8 (bitReset .i1 (.reg .h) s)

/-- `RES 1,L` (R243). -/
def execRes1L (s : State) : Result := done 8 (bitReset .i1 (.reg .l) s)

/-- `RES 1,(HL)` (R244). -/
def execRes1IndHl (s : State) : Result := done 16 (bitReset .i1 .indHl s)

/-- `RES 1,A` (R243). -/
def execRes1A (s : State) : Result := done 8 (bitReset .i1 (.reg .a) s)

/-- `RES 2,B` (R243). -/
def execRes2B (s : State) : Result := done 8 (bitReset .i2 (.reg .b) s)

/-- `RES 2,C` (R243). -/
def execRes2C (s : State) : Result := done 8 (bitReset .i2 (.reg .c) s)

/-- `RES 2,D` (R243). -/
def execRes2D (s : State) : Result := done 8 (bitReset .i2 (.reg .d) s)

/-- `RES 2,E` (R243). -/
def execRes2E (s : State) : Result := done 8 (bitReset .i2 (.reg .e) s)

/-- `RES 2,H` (R243). -/
def execRes2H (s : State) : Result := done 8 (bitReset .i2 (.reg .h) s)

/-- `RES 2,L` (R243). -/
def execRes2L (s : State) : Result := done 8 (bitReset .i2 (.reg .l) s)

/-- `RES 2,(HL)` (R244). -/
def execRes2IndHl (s : State) : Result := done 16 (bitReset .i2 .indHl s)

/-- `RES 2,A` (R243). -/
def execRes2A (s : State) : Result := done 8 (bitReset .i2 (.reg .a) s)

/-- `RES 3,B` (R243). -/
def execRes3B (s : State) : Result := done 8 (bitReset .i3 (.reg .b) s)

/-- `RES 3,C` (R243). -/
def execRes3C (s : State) : Result := done 8 (bitReset .i3 (.reg .c) s)

/-- `RES 3,D` (R243). -/
def execRes3D (s : State) : Result := done 8 (bitReset .i3 (.reg .d) s)

/-- `RES 3,E` (R243). -/
def execRes3E (s : State) : Result := done 8 (bitReset .i3 (.reg .e) s)

/-- `RES 3,H` (R243). -/
def execRes3H (s : State) : Result := done 8 (bitReset .i3 (.reg .h) s)

/-- `RES 3,L` (R243). -/
def execRes3L (s : State) : Result := done 8 (bitReset .i3 (.reg .l) s)

/-- `RES 3,(HL)` (R244). -/
def execRes3IndHl (s : State) : Result := done 16 (bitReset .i3 .indHl s)

/-- `RES 3,A` (R243). -/
def execRes3A (s : State) : Result := done 8 (bitReset .i3 (.reg .a) s)

/-- `RES 4,B` (R243). -/
def execRes4B (s : State) : Result := done 8 (bitReset .i4 (.reg .b) s)

/-- `RES 4,C` (R243). -/
def execRes4C (s : State) : Result := done 8 (bitReset .i4 (.reg .c) s)

/-- `RES 4,D` (R243). -/
def execRes4D (s : State) : Result := done 8 (bitReset .i4 (.reg .d) s)

/-- `RES 4,E` (R243). -/
def execRes4E (s : State) : Result := done 8 (bitReset .i4 (.reg .e) s)

/-- `RES 4,H` (R243). -/
def execRes4H (s : State) : Result := done 8 (bitReset .i4 (.reg .h) s)

/-- `RES 4,L` (R243). -/
def execRes4L (s : State) : Result := done 8 (bitReset .i4 (.reg .l) s)

/-- `RES 4,(HL)` (R244). -/
def execRes4IndHl (s : State) : Result := done 16 (bitReset .i4 .indHl s)

/-- `RES 4,A` (R243). -/
def execRes4A (s : State) : Result := done 8 (bitReset .i4 (.reg .a) s)

/-- `RES 5,B` (R243). -/
def execRes5B (s : State) : Result := done 8 (bitReset .i5 (.reg .b) s)

/-- `RES 5,C` (R243). -/
def execRes5C (s : State) : Result := done 8 (bitReset .i5 (.reg .c) s)

/-- `RES 5,D` (R243). -/
def execRes5D (s : State) : Result := done 8 (bitReset .i5 (.reg .d) s)

/-- `RES 5,E` (R243). -/
def execRes5E (s : State) : Result := done 8 (bitReset .i5 (.reg .e) s)

/-- `RES 5,H` (R243). -/
def execRes5H (s : State) : Result := done 8 (bitReset .i5 (.reg .h) s)

/-- `RES 5,L` (R243). -/
def execRes5L (s : State) : Result := done 8 (bitReset .i5 (.reg .l) s)

/-- `RES 5,(HL)` (R244). -/
def execRes5IndHl (s : State) : Result := done 16 (bitReset .i5 .indHl s)

/-- `RES 5,A` (R243). -/
def execRes5A (s : State) : Result := done 8 (bitReset .i5 (.reg .a) s)

/-- `RES 6,B` (R243). -/
def execRes6B (s : State) : Result := done 8 (bitReset .i6 (.reg .b) s)

/-- `RES 6,C` (R243). -/
def execRes6C (s : State) : Result := done 8 (bitReset .i6 (.reg .c) s)

/-- `RES 6,D` (R243). -/
def execRes6D (s : State) : Result := done 8 (bitReset .i6 (.reg .d) s)

/-- `RES 6,E` (R243). -/
def execRes6E (s : State) : Result := done 8 (bitReset .i6 (.reg .e) s)

/-- `RES 6,H` (R243). -/
def execRes6H (s : State) : Result := done 8 (bitReset .i6 (.reg .h) s)

/-- `RES 6,L` (R243). -/
def execRes6L (s : State) : Result := done 8 (bitReset .i6 (.reg .l) s)

/-- `RES 6,(HL)` (R244). -/
def execRes6IndHl (s : State) : Result := done 16 (bitReset .i6 .indHl s)

/-- `RES 6,A` (R243). -/
def execRes6A (s : State) : Result := done 8 (bitReset .i6 (.reg .a) s)

/-- `RES 7,B` (R243). -/
def execRes7B (s : State) : Result := done 8 (bitReset .i7 (.reg .b) s)

/-- `RES 7,C` (R243). -/
def execRes7C (s : State) : Result := done 8 (bitReset .i7 (.reg .c) s)

/-- `RES 7,D` (R243). -/
def execRes7D (s : State) : Result := done 8 (bitReset .i7 (.reg .d) s)

/-- `RES 7,E` (R243). -/
def execRes7E (s : State) : Result := done 8 (bitReset .i7 (.reg .e) s)

/-- `RES 7,H` (R243). -/
def execRes7H (s : State) : Result := done 8 (bitReset .i7 (.reg .h) s)

/-- `RES 7,L` (R243). -/
def execRes7L (s : State) : Result := done 8 (bitReset .i7 (.reg .l) s)

/-- `RES 7,(HL)` (R244). -/
def execRes7IndHl (s : State) : Result := done 16 (bitReset .i7 .indHl s)

/-- `RES 7,A` (R243). -/
def execRes7A (s : State) : Result := done 8 (bitReset .i7 (.reg .a) s)

/-- `SET 0,B` (R245). -/
def execSet0B (s : State) : Result := done 8 (bitSet .i0 (.reg .b) s)

/-- `SET 0,C` (R245). -/
def execSet0C (s : State) : Result := done 8 (bitSet .i0 (.reg .c) s)

/-- `SET 0,D` (R245). -/
def execSet0D (s : State) : Result := done 8 (bitSet .i0 (.reg .d) s)

/-- `SET 0,E` (R245). -/
def execSet0E (s : State) : Result := done 8 (bitSet .i0 (.reg .e) s)

/-- `SET 0,H` (R245). -/
def execSet0H (s : State) : Result := done 8 (bitSet .i0 (.reg .h) s)

/-- `SET 0,L` (R245). -/
def execSet0L (s : State) : Result := done 8 (bitSet .i0 (.reg .l) s)

/-- `SET 0,(HL)` (R246). -/
def execSet0IndHl (s : State) : Result := done 16 (bitSet .i0 .indHl s)

/-- `SET 0,A` (R245). -/
def execSet0A (s : State) : Result := done 8 (bitSet .i0 (.reg .a) s)

/-- `SET 1,B` (R245). -/
def execSet1B (s : State) : Result := done 8 (bitSet .i1 (.reg .b) s)

/-- `SET 1,C` (R245). -/
def execSet1C (s : State) : Result := done 8 (bitSet .i1 (.reg .c) s)

/-- `SET 1,D` (R245). -/
def execSet1D (s : State) : Result := done 8 (bitSet .i1 (.reg .d) s)

/-- `SET 1,E` (R245). -/
def execSet1E (s : State) : Result := done 8 (bitSet .i1 (.reg .e) s)

/-- `SET 1,H` (R245). -/
def execSet1H (s : State) : Result := done 8 (bitSet .i1 (.reg .h) s)

/-- `SET 1,L` (R245). -/
def execSet1L (s : State) : Result := done 8 (bitSet .i1 (.reg .l) s)

/-- `SET 1,(HL)` (R246). -/
def execSet1IndHl (s : State) : Result := done 16 (bitSet .i1 .indHl s)

/-- `SET 1,A` (R245). -/
def execSet1A (s : State) : Result := done 8 (bitSet .i1 (.reg .a) s)

/-- `SET 2,B` (R245). -/
def execSet2B (s : State) : Result := done 8 (bitSet .i2 (.reg .b) s)

/-- `SET 2,C` (R245). -/
def execSet2C (s : State) : Result := done 8 (bitSet .i2 (.reg .c) s)

/-- `SET 2,D` (R245). -/
def execSet2D (s : State) : Result := done 8 (bitSet .i2 (.reg .d) s)

/-- `SET 2,E` (R245). -/
def execSet2E (s : State) : Result := done 8 (bitSet .i2 (.reg .e) s)

/-- `SET 2,H` (R245). -/
def execSet2H (s : State) : Result := done 8 (bitSet .i2 (.reg .h) s)

/-- `SET 2,L` (R245). -/
def execSet2L (s : State) : Result := done 8 (bitSet .i2 (.reg .l) s)

/-- `SET 2,(HL)` (R246). -/
def execSet2IndHl (s : State) : Result := done 16 (bitSet .i2 .indHl s)

/-- `SET 2,A` (R245). -/
def execSet2A (s : State) : Result := done 8 (bitSet .i2 (.reg .a) s)

/-- `SET 3,B` (R245). -/
def execSet3B (s : State) : Result := done 8 (bitSet .i3 (.reg .b) s)

/-- `SET 3,C` (R245). -/
def execSet3C (s : State) : Result := done 8 (bitSet .i3 (.reg .c) s)

/-- `SET 3,D` (R245). -/
def execSet3D (s : State) : Result := done 8 (bitSet .i3 (.reg .d) s)

/-- `SET 3,E` (R245). -/
def execSet3E (s : State) : Result := done 8 (bitSet .i3 (.reg .e) s)

/-- `SET 3,H` (R245). -/
def execSet3H (s : State) : Result := done 8 (bitSet .i3 (.reg .h) s)

/-- `SET 3,L` (R245). -/
def execSet3L (s : State) : Result := done 8 (bitSet .i3 (.reg .l) s)

/-- `SET 3,(HL)` (R246). -/
def execSet3IndHl (s : State) : Result := done 16 (bitSet .i3 .indHl s)

/-- `SET 3,A` (R245). -/
def execSet3A (s : State) : Result := done 8 (bitSet .i3 (.reg .a) s)

/-- `SET 4,B` (R245). -/
def execSet4B (s : State) : Result := done 8 (bitSet .i4 (.reg .b) s)

/-- `SET 4,C` (R245). -/
def execSet4C (s : State) : Result := done 8 (bitSet .i4 (.reg .c) s)

/-- `SET 4,D` (R245). -/
def execSet4D (s : State) : Result := done 8 (bitSet .i4 (.reg .d) s)

/-- `SET 4,E` (R245). -/
def execSet4E (s : State) : Result := done 8 (bitSet .i4 (.reg .e) s)

/-- `SET 4,H` (R245). -/
def execSet4H (s : State) : Result := done 8 (bitSet .i4 (.reg .h) s)

/-- `SET 4,L` (R245). -/
def execSet4L (s : State) : Result := done 8 (bitSet .i4 (.reg .l) s)

/-- `SET 4,(HL)` (R246). -/
def execSet4IndHl (s : State) : Result := done 16 (bitSet .i4 .indHl s)

/-- `SET 4,A` (R245). -/
def execSet4A (s : State) : Result := done 8 (bitSet .i4 (.reg .a) s)

/-- `SET 5,B` (R245). -/
def execSet5B (s : State) : Result := done 8 (bitSet .i5 (.reg .b) s)

/-- `SET 5,C` (R245). -/
def execSet5C (s : State) : Result := done 8 (bitSet .i5 (.reg .c) s)

/-- `SET 5,D` (R245). -/
def execSet5D (s : State) : Result := done 8 (bitSet .i5 (.reg .d) s)

/-- `SET 5,E` (R245). -/
def execSet5E (s : State) : Result := done 8 (bitSet .i5 (.reg .e) s)

/-- `SET 5,H` (R245). -/
def execSet5H (s : State) : Result := done 8 (bitSet .i5 (.reg .h) s)

/-- `SET 5,L` (R245). -/
def execSet5L (s : State) : Result := done 8 (bitSet .i5 (.reg .l) s)

/-- `SET 5,(HL)` (R246). -/
def execSet5IndHl (s : State) : Result := done 16 (bitSet .i5 .indHl s)

/-- `SET 5,A` (R245). -/
def execSet5A (s : State) : Result := done 8 (bitSet .i5 (.reg .a) s)

/-- `SET 6,B` (R245). -/
def execSet6B (s : State) : Result := done 8 (bitSet .i6 (.reg .b) s)

/-- `SET 6,C` (R245). -/
def execSet6C (s : State) : Result := done 8 (bitSet .i6 (.reg .c) s)

/-- `SET 6,D` (R245). -/
def execSet6D (s : State) : Result := done 8 (bitSet .i6 (.reg .d) s)

/-- `SET 6,E` (R245). -/
def execSet6E (s : State) : Result := done 8 (bitSet .i6 (.reg .e) s)

/-- `SET 6,H` (R245). -/
def execSet6H (s : State) : Result := done 8 (bitSet .i6 (.reg .h) s)

/-- `SET 6,L` (R245). -/
def execSet6L (s : State) : Result := done 8 (bitSet .i6 (.reg .l) s)

/-- `SET 6,(HL)` (R246). -/
def execSet6IndHl (s : State) : Result := done 16 (bitSet .i6 .indHl s)

/-- `SET 6,A` (R245). -/
def execSet6A (s : State) : Result := done 8 (bitSet .i6 (.reg .a) s)

/-- `SET 7,B` (R245). -/
def execSet7B (s : State) : Result := done 8 (bitSet .i7 (.reg .b) s)

/-- `SET 7,C` (R245). -/
def execSet7C (s : State) : Result := done 8 (bitSet .i7 (.reg .c) s)

/-- `SET 7,D` (R245). -/
def execSet7D (s : State) : Result := done 8 (bitSet .i7 (.reg .d) s)

/-- `SET 7,E` (R245). -/
def execSet7E (s : State) : Result := done 8 (bitSet .i7 (.reg .e) s)

/-- `SET 7,H` (R245). -/
def execSet7H (s : State) : Result := done 8 (bitSet .i7 (.reg .h) s)

/-- `SET 7,L` (R245). -/
def execSet7L (s : State) : Result := done 8 (bitSet .i7 (.reg .l) s)

/-- `SET 7,(HL)` (R246). -/
def execSet7IndHl (s : State) : Result := done 16 (bitSet .i7 .indHl s)

/-- `SET 7,A` (R245). -/
def execSet7A (s : State) : Result := done 8 (bitSet .i7 (.reg .a) s)

end Sys2Proof.Machine
end

