-- ==== Sys2Proof/Machine/Rotate.lean ====
section
/-! DEFINITION. Rotates and shifts: the accumulator rotates of the primary table (44_rotate_bit R220 to R223) and those of the
extended table (R225 to R240). -/

namespace Sys2Proof.Machine

/-- An accumulator rotate: Z is always cleared (R220 to R223). -/
def rotAcc (op : RotOp) (s : State) : State :=
  let r := rotCompute op s.a s.flagC
  { s with a := r.1 }.setFlags false false false r.2

/-- A rotate or shift of a register or of the byte at HL: Z from the result (R225 to R240). -/
def rotOperand (op : RotOp) (o : Opnd) (s : State) : State :=
  let r := rotCompute op (s.read8 o) s.flagC
  (s.write8 o r.1).setFlags (r.1 == 0) false false r.2

/-- `RLCA` (R220). -/
def execRlca (s : State) : Result := done 4 (rotAcc .rlc s)

/-- `RRCA` (R221). -/
def execRrca (s : State) : Result := done 4 (rotAcc .rrc s)

/-- `RLA` (R222). -/
def execRla (s : State) : Result := done 4 (rotAcc .rl s)

/-- `RRA` (R223). -/
def execRra (s : State) : Result := done 4 (rotAcc .rr s)

/-- `RLC B` (R225). -/
def execRlcB (s : State) : Result := done 8 (rotOperand .rlc (.reg .b) s)

/-- `RLC C` (R225). -/
def execRlcC (s : State) : Result := done 8 (rotOperand .rlc (.reg .c) s)

/-- `RLC D` (R225). -/
def execRlcD (s : State) : Result := done 8 (rotOperand .rlc (.reg .d) s)

/-- `RLC E` (R225). -/
def execRlcE (s : State) : Result := done 8 (rotOperand .rlc (.reg .e) s)

/-- `RLC H` (R225). -/
def execRlcH (s : State) : Result := done 8 (rotOperand .rlc (.reg .h) s)

/-- `RLC L` (R225). -/
def execRlcL (s : State) : Result := done 8 (rotOperand .rlc (.reg .l) s)

/-- `RLC (HL)` (R226). -/
def execRlcIndHl (s : State) : Result := done 16 (rotOperand .rlc .indHl s)

/-- `RLC A` (R225). -/
def execRlcA (s : State) : Result := done 8 (rotOperand .rlc (.reg .a) s)

/-- `RRC B` (R227). -/
def execRrcB (s : State) : Result := done 8 (rotOperand .rrc (.reg .b) s)

/-- `RRC C` (R227). -/
def execRrcC (s : State) : Result := done 8 (rotOperand .rrc (.reg .c) s)

/-- `RRC D` (R227). -/
def execRrcD (s : State) : Result := done 8 (rotOperand .rrc (.reg .d) s)

/-- `RRC E` (R227). -/
def execRrcE (s : State) : Result := done 8 (rotOperand .rrc (.reg .e) s)

/-- `RRC H` (R227). -/
def execRrcH (s : State) : Result := done 8 (rotOperand .rrc (.reg .h) s)

/-- `RRC L` (R227). -/
def execRrcL (s : State) : Result := done 8 (rotOperand .rrc (.reg .l) s)

/-- `RRC (HL)` (R228). -/
def execRrcIndHl (s : State) : Result := done 16 (rotOperand .rrc .indHl s)

/-- `RRC A` (R227). -/
def execRrcA (s : State) : Result := done 8 (rotOperand .rrc (.reg .a) s)

/-- `RL B` (R229). -/
def execRlB (s : State) : Result := done 8 (rotOperand .rl (.reg .b) s)

/-- `RL C` (R229). -/
def execRlC (s : State) : Result := done 8 (rotOperand .rl (.reg .c) s)

/-- `RL D` (R229). -/
def execRlD (s : State) : Result := done 8 (rotOperand .rl (.reg .d) s)

/-- `RL E` (R229). -/
def execRlE (s : State) : Result := done 8 (rotOperand .rl (.reg .e) s)

/-- `RL H` (R229). -/
def execRlH (s : State) : Result := done 8 (rotOperand .rl (.reg .h) s)

/-- `RL L` (R229). -/
def execRlL (s : State) : Result := done 8 (rotOperand .rl (.reg .l) s)

/-- `RL (HL)` (R230). -/
def execRlIndHl (s : State) : Result := done 16 (rotOperand .rl .indHl s)

/-- `RL A` (R229). -/
def execRlA (s : State) : Result := done 8 (rotOperand .rl (.reg .a) s)

/-- `RR B` (R231). -/
def execRrB (s : State) : Result := done 8 (rotOperand .rr (.reg .b) s)

/-- `RR C` (R231). -/
def execRrC (s : State) : Result := done 8 (rotOperand .rr (.reg .c) s)

/-- `RR D` (R231). -/
def execRrD (s : State) : Result := done 8 (rotOperand .rr (.reg .d) s)

/-- `RR E` (R231). -/
def execRrE (s : State) : Result := done 8 (rotOperand .rr (.reg .e) s)

/-- `RR H` (R231). -/
def execRrH (s : State) : Result := done 8 (rotOperand .rr (.reg .h) s)

/-- `RR L` (R231). -/
def execRrL (s : State) : Result := done 8 (rotOperand .rr (.reg .l) s)

/-- `RR (HL)` (R232). -/
def execRrIndHl (s : State) : Result := done 16 (rotOperand .rr .indHl s)

/-- `RR A` (R231). -/
def execRrA (s : State) : Result := done 8 (rotOperand .rr (.reg .a) s)

/-- `SLA B` (R233). -/
def execSlaB (s : State) : Result := done 8 (rotOperand .sla (.reg .b) s)

/-- `SLA C` (R233). -/
def execSlaC (s : State) : Result := done 8 (rotOperand .sla (.reg .c) s)

/-- `SLA D` (R233). -/
def execSlaD (s : State) : Result := done 8 (rotOperand .sla (.reg .d) s)

/-- `SLA E` (R233). -/
def execSlaE (s : State) : Result := done 8 (rotOperand .sla (.reg .e) s)

/-- `SLA H` (R233). -/
def execSlaH (s : State) : Result := done 8 (rotOperand .sla (.reg .h) s)

/-- `SLA L` (R233). -/
def execSlaL (s : State) : Result := done 8 (rotOperand .sla (.reg .l) s)

/-- `SLA (HL)` (R234). -/
def execSlaIndHl (s : State) : Result := done 16 (rotOperand .sla .indHl s)

/-- `SLA A` (R233). -/
def execSlaA (s : State) : Result := done 8 (rotOperand .sla (.reg .a) s)

/-- `SRA B` (R235). -/
def execSraB (s : State) : Result := done 8 (rotOperand .sra (.reg .b) s)

/-- `SRA C` (R235). -/
def execSraC (s : State) : Result := done 8 (rotOperand .sra (.reg .c) s)

/-- `SRA D` (R235). -/
def execSraD (s : State) : Result := done 8 (rotOperand .sra (.reg .d) s)

/-- `SRA E` (R235). -/
def execSraE (s : State) : Result := done 8 (rotOperand .sra (.reg .e) s)

/-- `SRA H` (R235). -/
def execSraH (s : State) : Result := done 8 (rotOperand .sra (.reg .h) s)

/-- `SRA L` (R235). -/
def execSraL (s : State) : Result := done 8 (rotOperand .sra (.reg .l) s)

/-- `SRA (HL)` (R236). -/
def execSraIndHl (s : State) : Result := done 16 (rotOperand .sra .indHl s)

/-- `SRA A` (R235). -/
def execSraA (s : State) : Result := done 8 (rotOperand .sra (.reg .a) s)

/-- `SWAP B` (R237). -/
def execSwapB (s : State) : Result := done 8 (rotOperand .swap (.reg .b) s)

/-- `SWAP C` (R237). -/
def execSwapC (s : State) : Result := done 8 (rotOperand .swap (.reg .c) s)

/-- `SWAP D` (R237). -/
def execSwapD (s : State) : Result := done 8 (rotOperand .swap (.reg .d) s)

/-- `SWAP E` (R237). -/
def execSwapE (s : State) : Result := done 8 (rotOperand .swap (.reg .e) s)

/-- `SWAP H` (R237). -/
def execSwapH (s : State) : Result := done 8 (rotOperand .swap (.reg .h) s)

/-- `SWAP L` (R237). -/
def execSwapL (s : State) : Result := done 8 (rotOperand .swap (.reg .l) s)

/-- `SWAP (HL)` (R238). -/
def execSwapIndHl (s : State) : Result := done 16 (rotOperand .swap .indHl s)

/-- `SWAP A` (R237). -/
def execSwapA (s : State) : Result := done 8 (rotOperand .swap (.reg .a) s)

/-- `SRL B` (R239). -/
def execSrlB (s : State) : Result := done 8 (rotOperand .srl (.reg .b) s)

/-- `SRL C` (R239). -/
def execSrlC (s : State) : Result := done 8 (rotOperand .srl (.reg .c) s)

/-- `SRL D` (R239). -/
def execSrlD (s : State) : Result := done 8 (rotOperand .srl (.reg .d) s)

/-- `SRL E` (R239). -/
def execSrlE (s : State) : Result := done 8 (rotOperand .srl (.reg .e) s)

/-- `SRL H` (R239). -/
def execSrlH (s : State) : Result := done 8 (rotOperand .srl (.reg .h) s)

/-- `SRL L` (R239). -/
def execSrlL (s : State) : Result := done 8 (rotOperand .srl (.reg .l) s)

/-- `SRL (HL)` (R240). -/
def execSrlIndHl (s : State) : Result := done 16 (rotOperand .srl .indHl s)

/-- `SRL A` (R239). -/
def execSrlA (s : State) : Result := done 8 (rotOperand .srl (.reg .a) s)

end Sys2Proof.Machine
end

