-- ==== Sys2Proof/Machine/System.lean ====
section
/-! DEFINITION. NOP, HALT, STOP, DI, EI, the illegal opcodes and the prefix (46_system R270 to R276). -/

namespace Sys2Proof.Machine

/-- `HALT`: with IME clear and an interrupt pending the halt bug is armed and the engine keeps running; else it halts
(R271). -/
def halt (s : State) : State :=
  if s.ime = false ∧ s.pending ≠ 0 then { s with haltBug := true } else { s with mode := .halted }

/-- `STOP`: the byte after the opcode is ignored (R272). -/
def stop (_n : Byte) (s : State) : State := { s with mode := .stopped }

/-- `DI`: at once, and a delayed enable is cancelled (R273). -/
def disableInterrupts (s : State) : State := { s with ime := false, imePending := false }

/-- `EI`: armed; IME follows at the end of the next instruction's step (R274, R292). -/
def enableInterrupts (s : State) : State := { s with imePending := true }

/-- An illegal opcode locks the engine until reset (R275). -/
def lockUp (s : State) : State := { s with mode := .locked }

/-- Cycles of an extended instruction that writes its operand back (R340). -/
def modifyCycles : Opnd → Nat
  | .reg _ => 8
  | .indHl => 16

/-- Cycles of an extended bit test (R340). -/
def testCycles : Opnd → Nat
  | .reg _ => 8
  | .indHl => 12

/-- The extended-table entry for `op2`, by its fields `xx yyy sss` (R109). -/
def runExtended (op2 : Byte) (s : State) : Result :=
  let x : BitVec 2 := BitVec.extractLsb' 6 2 op2
  let y : BitVec 3 := BitVec.extractLsb' 3 3 op2
  let o := Opnd.ofField (BitVec.extractLsb' 0 3 op2)
  if x = 0 then done (modifyCycles o) (rotOperand (RotOp.ofField y) o s)
  else if x = 1 then done (testCycles o) (bitTest (Idx3.ofField y) o s)
  else if x = 2 then done (modifyCycles o) (bitReset (Idx3.ofField y) o s)
  else done (modifyCycles o) (bitSet (Idx3.ofField y) o s)

/-- The prefix: the second opcode byte is fetched and the instruction is the extended table's entry for it (R276). -/
def prefixThenExtended (s : State) : Result := runExtended s.fetch8.1 s.fetch8.2

/-- `NOP` (R270). -/
def execNop (s : State) : Result := done 4 s

/-- `STOP` (R272). -/
def execStop (n : Byte) (s : State) : Result := done 4 (stop n s)

/-- `HALT` (R271). -/
def execHalt (s : State) : Result := done 4 (halt s)

/-- `PREFIX CB` (R276). -/
def execPrefixCb (s : State) : Result := prefixThenExtended s

/-- `ILLEGAL_D3` (R275). -/
def execIllegalD3 (s : State) : Result := done 4 (lockUp s)

/-- `ILLEGAL_DB` (R275). -/
def execIllegalDB (s : State) : Result := done 4 (lockUp s)

/-- `ILLEGAL_DD` (R275). -/
def execIllegalDD (s : State) : Result := done 4 (lockUp s)

/-- `ILLEGAL_E3` (R275). -/
def execIllegalE3 (s : State) : Result := done 4 (lockUp s)

/-- `ILLEGAL_E4` (R275). -/
def execIllegalE4 (s : State) : Result := done 4 (lockUp s)

/-- `ILLEGAL_EB` (R275). -/
def execIllegalEB (s : State) : Result := done 4 (lockUp s)

/-- `ILLEGAL_EC` (R275). -/
def execIllegalEC (s : State) : Result := done 4 (lockUp s)

/-- `ILLEGAL_ED` (R275). -/
def execIllegalED (s : State) : Result := done 4 (lockUp s)

/-- `DI` (R273). -/
def execDi (s : State) : Result := done 4 (disableInterrupts s)

/-- `ILLEGAL_F4` (R275). -/
def execIllegalF4 (s : State) : Result := done 4 (lockUp s)

/-- `EI` (R274). -/
def execEi (s : State) : Result := done 4 (enableInterrupts s)

/-- `ILLEGAL_FC` (R275). -/
def execIllegalFC (s : State) : Result := done 4 (lockUp s)

/-- `ILLEGAL_FD` (R275). -/
def execIllegalFD (s : State) : Result := done 4 (lockUp s)

end Sys2Proof.Machine
end

