-- ==== Sys2Proof/Machine/Environment.lean ====
section
/-! DEFINITION. What the outside does to the block between steps (R6, R342): writes to the I/O window and IE, interrupt
requests, reset (R320), the snapshot (R7, R308), and constructing a machine around a cartridge (R10, R11, R75). -/

namespace Sys2Proof.Machine

/-- What reset does behind the bus (R320): IE and the bank controller at their reset values, the memories at any contents
the caller names (R36); the cartridge stays. -/
def Bus.afterReset (u : Bus) (init : ResetInit) : Bus :=
  { cart := u.cart, mbc := Mbc.reset, ie := 0x00
    vram := Memory.ofCells 0x2000 init.vram
    wram := Memory.ofCells 0x2000 init.wram
    oam := Memory.ofCells 0xA0 init.oam
    io := Memory.ofCells 0x80 init.io
    hram := Memory.ofCells 0x7F init.hram
    xram := Memory.ofCells (u.cart.ramBanks.val * Config.ramBankSize) init.xram }

/-- `reset()` (R320): the register baseline, the engine bits, and `Bus.afterReset`. What is still to come from
outside stays. A write of F keeps its low nibble 0 (R22). -/
def State.applyReset (s : State) (init : ResetInit) : State :=
  let r := s.baseline
  { a := r.a, f := r.f &&& 0xF0, b := r.b, c := r.c, d := r.d, e := r.e, h := r.h, l := r.l
    sp := r.sp, pc := r.pc, ime := r.ime
    mode := .running, imePending := false, haltBug := false
    bus := s.bus.afterReset init, baseline := r
    cycles := s.cycles, inputs := s.inputs }

/-- One action of the outside (R6): every write goes through the bus's own `write`. -/
def State.applyMove (s : State) : EnvMove → State
  | .writeIo offset v => s.busWrite (Word.join 0xFF (BitVec.setWidth 8 offset)) v
  | .writeIe v => s.busWrite Config.ieAddr v
  | .raise i => s.busWrite Config.ifAddr (s.ifReg ||| i.mask)
  | .clear i => s.busWrite Config.ifAddr (s.ifReg &&& ~~~ i.mask)
  | .reset init => s.applyReset init

/-- The actions of the outside, in order. -/
def State.applyMoves (s : State) : List EnvMove → State
  | [] => s
  | m :: ms => (s.applyMove m).applyMoves ms

/-- The wake bit of the coming step and the state it starts from: the first entry of `inputs` is taken off and its moves
are made. With none left the outside makes no move and does not wake (R6, R290); log entry 1. -/
def State.takeInput (s : State) : Bool × State :=
  match s.inputs with
  | [] => (false, s)
  | i :: rest => (i.wake, { s with inputs := rest }.applyMoves i.moves)

/-- The read-only snapshot of the register file and engine state (R7), with the hidden bits R308 advises to show. -/
structure Snapshot where
  a : Byte
  f : Byte
  b : Byte
  c : Byte
  d : Byte
  e : Byte
  h : Byte
  l : Byte
  pc : Word
  sp : Word
  ime : Bool
  mode : Mode
  imePending : Bool
  haltBug : Bool
  deriving DecidableEq, Repr

/-- Reading the snapshot (R7). -/
def State.snapshot (s : State) : Snapshot :=
  { a := s.a, f := s.f, b := s.b, c := s.c, d := s.d, e := s.e, h := s.h, l := s.l
    pc := s.pc, sp := s.sp, ime := s.ime, mode := s.mode, imePending := s.imePending, haltBug := s.haltBug }

/-- The machine with the given cartridge and baseline right after reset (R320, R342 `construct`); a cell of the image
outside its banks is dropped. -/
def State.powerOn (cart : Cartridge) (baseline : Baseline) (init : ResetInit) : State :=
  { State.reset with
    baseline := baseline
    bus :=
      { State.reset.bus with
        cart := { cart with rom := Memory.ofCells (cart.bankCount * Config.romBankSize) cart.rom } } }.applyReset init

/-- Constructing the block around a cartridge (R342): the declared kind, size code, image length, image bytes and RAM
banks, the register baseline, and the memory contents. A cartridge the spec has no rule for is refused (R10, R11, R75). -/
def construct (kind : ControllerKind) (sizeCode length ramBanks : Nat) (rom : List Host.Cell) (baseline : Baseline)
    (init : ResetInit) : Result :=
  match kind.supported with
  | none => .refused (.unsupportedController kind)
  | some k =>
    if hc : sizeCode < 9 then
      if length ≠ 0x8000 <<< sizeCode then .refused (.sizeMismatch length)
      else if hr : ramBanks < 17 then
        .next (State.powerOn { kind := k, sizeCode := ⟨sizeCode, hc⟩, ramBanks := ⟨ramBanks, hr⟩, rom := rom } baseline init)
      else .refused (.ramBanksOutOfRange ramBanks)
    else .refused (.invalidSizeCode sizeCode)

end Sys2Proof.Machine
end

