-- ==== Sys2Proof/WellFormed.lean ====
section
/-! DEFINITION. Which terms of `Instr` are instructions. Every immediate value is legal and there are no reserved fields
(R110, R111), so the one check is that the row of the prefix is not an instruction by itself (R276). -/

namespace Sys2Proof

/-- The instruction is not the bare prefix row (R276, R277). -/
def Instr.notBarePrefix (i : Instr) : Bool := i != .prefixCb

/-- A well-formed instruction. -/
def Instr.wellFormed (i : Instr) : Bool := i.notBarePrefix

end Sys2Proof
end

