-- ==== Sys2Proof/Decode.lean ====
section
/-! DEFINITION. The decoder, a data-driven table of 256 primary and 256 extended slots indexed by opcode value (R101,
R108, R109, R113), and after it the encoder, written from the bit patterns of R103 to R109 and not from that table. -/

namespace Sys2Proof

/-! ### The decoder -/

/-- One slot of the primary table: how the instruction's operand bytes follow the opcode (R100). -/
inductive Slot where
  | op (i : Instr)
  | opN (i : Byte → Instr)
  | opNN (i : Word → Instr)
  | cb

/-- Sixteen slots of a table row, by low nibble. -/
abbrev SlotRow := Vector Slot 16

/-- Primary opcodes 00 to 0F (R108). -/
def primaryRow0 : SlotRow :=
  #v[.op .nop, .opNN .ldBcNn, .op .ldIndBcA, .op .incBc,
    .op .incB, .op .decB, .opN .ldBN, .op .rlca,
    .opNN .ldIndNnSp, .op .addHlBc, .op .ldAIndBc, .op .decBc,
    .op .incC, .op .decC, .opN .ldCN, .op .rrca]

/-- Primary opcodes 10 to 1F (R108). -/
def primaryRow1 : SlotRow :=
  #v[.opN .stop, .opNN .ldDeNn, .op .ldIndDeA, .op .incDe,
    .op .incD, .op .decD, .opN .ldDN, .op .rla,
    .opN .jrE, .op .addHlDe, .op .ldAIndDe, .op .decDe,
    .op .incE, .op .decE, .opN .ldEN, .op .rra]

/-- Primary opcodes 20 to 2F (R108). -/
def primaryRow2 : SlotRow :=
  #v[.opN .jrNzE, .opNN .ldHlNn, .op .ldHlIncA, .op .incHl,
    .op .incH, .op .decH, .opN .ldHN, .op .daa,
    .opN .jrZE, .op .addHlHl, .op .ldAHlInc, .op .decHl,
    .op .incL, .op .decL, .opN .ldLN, .op .cpl]

/-- Primary opcodes 30 to 3F (R108). -/
def primaryRow3 : SlotRow :=
  #v[.opN .jrNcE, .opNN .ldSpNn, .op .ldHlDecA, .op .incSp,
    .op .incIndHl, .op .decIndHl, .opN .ldIndHlN, .op .scf,
    .opN .jrCE, .op .addHlSp, .op .ldAHlDec, .op .decSp,
    .op .incA, .op .decA, .opN .ldAN, .op .ccf]

/-- Primary opcodes 40 to 4F (R108). -/
def primaryRow4 : SlotRow :=
  #v[.op .ldBB, .op .ldBC, .op .ldBD, .op .ldBE,
    .op .ldBH, .op .ldBL, .op .ldBIndHl, .op .ldBA,
    .op .ldCB, .op .ldCC, .op .ldCD, .op .ldCE,
    .op .ldCH, .op .ldCL, .op .ldCIndHl, .op .ldCA]

/-- Primary opcodes 50 to 5F (R108). -/
def primaryRow5 : SlotRow :=
  #v[.op .ldDB, .op .ldDC, .op .ldDD, .op .ldDE,
    .op .ldDH, .op .ldDL, .op .ldDIndHl, .op .ldDA,
    .op .ldEB, .op .ldEC, .op .ldED, .op .ldEE,
    .op .ldEH, .op .ldEL, .op .ldEIndHl, .op .ldEA]

/-- Primary opcodes 60 to 6F (R108). -/
def primaryRow6 : SlotRow :=
  #v[.op .ldHB, .op .ldHC, .op .ldHD, .op .ldHE,
    .op .ldHH, .op .ldHL, .op .ldHIndHl, .op .ldHA,
    .op .ldLB, .op .ldLC, .op .ldLD, .op .ldLE,
    .op .ldLH, .op .ldLL, .op .ldLIndHl, .op .ldLA]

/-- Primary opcodes 70 to 7F (R108). -/
def primaryRow7 : SlotRow :=
  #v[.op .ldIndHlB, .op .ldIndHlC, .op .ldIndHlD, .op .ldIndHlE,
    .op .ldIndHlH, .op .ldIndHlL, .op .halt, .op .ldIndHlA,
    .op .ldAB, .op .ldAC, .op .ldAD, .op .ldAE,
    .op .ldAH, .op .ldAL, .op .ldAIndHl, .op .ldAA]

/-- Primary opcodes 80 to 8F (R108). -/
def primaryRow8 : SlotRow :=
  #v[.op .addAB, .op .addAC, .op .addAD, .op .addAE,
    .op .addAH, .op .addAL, .op .addAIndHl, .op .addAA,
    .op .adcAB, .op .adcAC, .op .adcAD, .op .adcAE,
    .op .adcAH, .op .adcAL, .op .adcAIndHl, .op .adcAA]

/-- Primary opcodes 90 to 9F (R108). -/
def primaryRow9 : SlotRow :=
  #v[.op .subB, .op .subC, .op .subD, .op .subE,
    .op .subH, .op .subL, .op .subIndHl, .op .subA,
    .op .sbcAB, .op .sbcAC, .op .sbcAD, .op .sbcAE,
    .op .sbcAH, .op .sbcAL, .op .sbcAIndHl, .op .sbcAA]

/-- Primary opcodes A0 to AF (R108). -/
def primaryRowA : SlotRow :=
  #v[.op .andB, .op .andC, .op .andD, .op .andE,
    .op .andH, .op .andL, .op .andIndHl, .op .andA,
    .op .xorB, .op .xorC, .op .xorD, .op .xorE,
    .op .xorH, .op .xorL, .op .xorIndHl, .op .xorA]

/-- Primary opcodes B0 to BF (R108). -/
def primaryRowB : SlotRow :=
  #v[.op .orB, .op .orC, .op .orD, .op .orE,
    .op .orH, .op .orL, .op .orIndHl, .op .orA,
    .op .cpB, .op .cpC, .op .cpD, .op .cpE,
    .op .cpH, .op .cpL, .op .cpIndHl, .op .cpA]

/-- Primary opcodes C0 to CF (R108). -/
def primaryRowC : SlotRow :=
  #v[.op .retNz, .op .popBc, .opNN .jpNzNn, .opNN .jpNn,
    .opNN .callNzNn, .op .pushBc, .opN .addAN, .op .rst00h,
    .op .retZ, .op .ret, .opNN .jpZNn, .cb,
    .opNN .callZNn, .opNN .callNn, .opN .adcAN, .op .rst08h]

/-- Primary opcodes D0 to DF (R108). -/
def primaryRowD : SlotRow :=
  #v[.op .retNc, .op .popDe, .opNN .jpNcNn, .op .illegalD3,
    .opNN .callNcNn, .op .pushDe, .opN .subN, .op .rst10h,
    .op .retC, .op .reti, .opNN .jpCNn, .op .illegalDB,
    .opNN .callCNn, .op .illegalDD, .opN .sbcAN, .op .rst18h]

/-- Primary opcodes E0 to EF (R108). -/
def primaryRowE : SlotRow :=
  #v[.opN .ldhIndNA, .op .popHl, .op .ldhIndCA, .op .illegalE3,
    .op .illegalE4, .op .pushHl, .opN .andN, .op .rst20h,
    .opN .addSpE, .op .jpHl, .opNN .ldIndNnA, .op .illegalEB,
    .op .illegalEC, .op .illegalED, .opN .xorN, .op .rst28h]

/-- Primary opcodes F0 to FF (R108). -/
def primaryRowF : SlotRow :=
  #v[.opN .ldhAIndN, .op .popAf, .op .ldhAIndC, .op .di,
    .op .illegalF4, .op .pushAf, .opN .orN, .op .rst30h,
    .opN .ldHlSpE, .op .ldSpHl, .opNN .ldAIndNn, .op .ei,
    .op .illegalFC, .op .illegalFD, .opN .cpN, .op .rst38h]

/-- The primary table (R108): row by high nibble, column by low nibble. -/
def primaryTable : Vector SlotRow 16 :=
  #v[primaryRow0, primaryRow1, primaryRow2, primaryRow3,
    primaryRow4, primaryRow5, primaryRow6, primaryRow7,
    primaryRow8, primaryRow9, primaryRowA, primaryRowB,
    primaryRowC, primaryRowD, primaryRowE, primaryRowF]

/-- Extended opcodes 00 to 0F (R109). -/
def extendedRow0 : Vector Instr 16 :=
  #v[.rlcB, .rlcC, .rlcD, .rlcE,
    .rlcH, .rlcL, .rlcIndHl, .rlcA,
    .rrcB, .rrcC, .rrcD, .rrcE,
    .rrcH, .rrcL, .rrcIndHl, .rrcA]

/-- Extended opcodes 10 to 1F (R109). -/
def extendedRow1 : Vector Instr 16 :=
  #v[.rlB, .rlC, .rlD, .rlE,
    .rlH, .rlL, .rlIndHl, .rlA,
    .rrB, .rrC, .rrD, .rrE,
    .rrH, .rrL, .rrIndHl, .rrA]

/-- Extended opcodes 20 to 2F (R109). -/
def extendedRow2 : Vector Instr 16 :=
  #v[.slaB, .slaC, .slaD, .slaE,
    .slaH, .slaL, .slaIndHl, .slaA,
    .sraB, .sraC, .sraD, .sraE,
    .sraH, .sraL, .sraIndHl, .sraA]

/-- Extended opcodes 30 to 3F (R109). -/
def extendedRow3 : Vector Instr 16 :=
  #v[.swapB, .swapC, .swapD, .swapE,
    .swapH, .swapL, .swapIndHl, .swapA,
    .srlB, .srlC, .srlD, .srlE,
    .srlH, .srlL, .srlIndHl, .srlA]

/-- Extended opcodes 40 to 4F (R109). -/
def extendedRow4 : Vector Instr 16 :=
  #v[.bit0B, .bit0C, .bit0D, .bit0E,
    .bit0H, .bit0L, .bit0IndHl, .bit0A,
    .bit1B, .bit1C, .bit1D, .bit1E,
    .bit1H, .bit1L, .bit1IndHl, .bit1A]

/-- Extended opcodes 50 to 5F (R109). -/
def extendedRow5 : Vector Instr 16 :=
  #v[.bit2B, .bit2C, .bit2D, .bit2E,
    .bit2H, .bit2L, .bit2IndHl, .bit2A,
    .bit3B, .bit3C, .bit3D, .bit3E,
    .bit3H, .bit3L, .bit3IndHl, .bit3A]

/-- Extended opcodes 60 to 6F (R109). -/
def extendedRow6 : Vector Instr 16 :=
  #v[.bit4B, .bit4C, .bit4D, .bit4E,
    .bit4H, .bit4L, .bit4IndHl, .bit4A,
    .bit5B, .bit5C, .bit5D, .bit5E,
    .bit5H, .bit5L, .bit5IndHl, .bit5A]

/-- Extended opcodes 70 to 7F (R109). -/
def extendedRow7 : Vector Instr 16 :=
  #v[.bit6B, .bit6C, .bit6D, .bit6E,
    .bit6H, .bit6L, .bit6IndHl, .bit6A,
    .bit7B, .bit7C, .bit7D, .bit7E,
    .bit7H, .bit7L, .bit7IndHl, .bit7A]

/-- Extended opcodes 80 to 8F (R109). -/
def extendedRow8 : Vector Instr 16 :=
  #v[.res0B, .res0C, .res0D, .res0E,
    .res0H, .res0L, .res0IndHl, .res0A,
    .res1B, .res1C, .res1D, .res1E,
    .res1H, .res1L, .res1IndHl, .res1A]

/-- Extended opcodes 90 to 9F (R109). -/
def extendedRow9 : Vector Instr 16 :=
  #v[.res2B, .res2C, .res2D, .res2E,
    .res2H, .res2L, .res2IndHl, .res2A,
    .res3B, .res3C, .res3D, .res3E,
    .res3H, .res3L, .res3IndHl, .res3A]

/-- Extended opcodes A0 to AF (R109). -/
def extendedRowA : Vector Instr 16 :=
  #v[.res4B, .res4C, .res4D, .res4E,
    .res4H, .res4L, .res4IndHl, .res4A,
    .res5B, .res5C, .res5D, .res5E,
    .res5H, .res5L, .res5IndHl, .res5A]

/-- Extended opcodes B0 to BF (R109). -/
def extendedRowB : Vector Instr 16 :=
  #v[.res6B, .res6C, .res6D, .res6E,
    .res6H, .res6L, .res6IndHl, .res6A,
    .res7B, .res7C, .res7D, .res7E,
    .res7H, .res7L, .res7IndHl, .res7A]

/-- Extended opcodes C0 to CF (R109). -/
def extendedRowC : Vector Instr 16 :=
  #v[.set0B, .set0C, .set0D, .set0E,
    .set0H, .set0L, .set0IndHl, .set0A,
    .set1B, .set1C, .set1D, .set1E,
    .set1H, .set1L, .set1IndHl, .set1A]

/-- Extended opcodes D0 to DF (R109). -/
def extendedRowD : Vector Instr 16 :=
  #v[.set2B, .set2C, .set2D, .set2E,
    .set2H, .set2L, .set2IndHl, .set2A,
    .set3B, .set3C, .set3D, .set3E,
    .set3H, .set3L, .set3IndHl, .set3A]

/-- Extended opcodes E0 to EF (R109). -/
def extendedRowE : Vector Instr 16 :=
  #v[.set4B, .set4C, .set4D, .set4E,
    .set4H, .set4L, .set4IndHl, .set4A,
    .set5B, .set5C, .set5D, .set5E,
    .set5H, .set5L, .set5IndHl, .set5A]

/-- Extended opcodes F0 to FF (R109). -/
def extendedRowF : Vector Instr 16 :=
  #v[.set6B, .set6C, .set6D, .set6E,
    .set6H, .set6L, .set6IndHl, .set6A,
    .set7B, .set7C, .set7D, .set7E,
    .set7H, .set7L, .set7IndHl, .set7A]

/-- The extended table (R109): row by high nibble, column by low nibble. -/
def extendedTable : Vector (Vector Instr 16) 16 :=
  #v[extendedRow0, extendedRow1, extendedRow2, extendedRow3,
    extendedRow4, extendedRow5, extendedRow6, extendedRow7,
    extendedRow8, extendedRow9, extendedRowA, extendedRowB,
    extendedRowC, extendedRowD, extendedRowE, extendedRowF]

/-- The high nibble of an opcode. -/
def hiNibble (b : Byte) : Fin 16 := ⟨b.toNat / 16, by omega⟩

/-- The low nibble of an opcode. -/
def loNibble (b : Byte) : Fin 16 := ⟨b.toNat % 16, by omega⟩

/-- `PRIMARY[op]` (R101). -/
def primarySlot (op : Byte) : Slot := (primaryTable.get (hiNibble op)).get (loNibble op)

/-- `EXTENDED[op2]` (R101). -/
def extendedInstr (op2 : Byte) : Instr := (extendedTable.get (hiNibble op2)).get (loNibble op2)

/-- Why a list of bytes is not one instruction and more: it ends too soon. No byte value is rejected: the eleven illegal
opcodes are rows of the table with a meaning of their own (R110, R275). -/
inductive DecodeError where
  | noOpcode
  | missingImmediate
  | missingExtendedOpcode
  deriving DecidableEq, Repr

/-- Reads one instruction off a list of bytes, first byte first, and returns the bytes after it (R100, R101, R112). -/
def decode : List Byte → Except DecodeError (Instr × List Byte)
  | [] => .error .noOpcode
  | op :: rest =>
    match primarySlot op with
    | .op i => .ok (i, rest)
    | .opN f =>
      match rest with
      | n :: rest => .ok (f n, rest)
      | [] => .error .missingImmediate
    | .opNN f =>
      match rest with
      | lo :: hi :: rest => .ok (f (Word.join hi lo), rest)
      | _ => .error .missingImmediate
    | .cb =>
      match rest with
      | op2 :: rest => .ok (extendedInstr op2, rest)
      | [] => .error .missingExtendedOpcode

/-- The bytes of an instruction whose bits spec/opcode_table.json numbers as `w`, with zeros up to three bytes. Bit 0 is
the least significant bit of the first byte, except that the table writes an extended row as `0xCBnn` with the prefix, the
FIRST byte, in bits 15 to 8 (R113); log entry 6. -/
def tableBytes (nbits w : Nat) : List Byte :=
  let v := w % 2 ^ nbits
  if nbits = 16 ∧ v / 256 = 0xCB then [Config.prefixByte, BitVec.ofNat 8 v, 0]
  else [BitVec.ofNat 8 v, BitVec.ofNat 8 (v / 256), BitVec.ofNat 8 (v / 65536)]

/-- The instruction the decoder reads from a row's word (log entry 6). -/
def decodeTableWord (nbits w : Nat) : Option Instr :=
  match decode (tableBytes nbits w) with
  | .ok (i, _) => some i
  | .error _ => none

/-! ### Instructions by pattern line -/

/-- The pattern line of R108 or R109 an instruction is a case of. -/
def Instr.form : Instr → Form
  | .nop => .nop
  | .ldBcNn nn => .ldPairNn .bc nn
  | .ldIndBcA => .ldIndA .bc
  | .incBc => .incPair .bc
  | .incB => .inc (.reg .b)
  | .decB => .dec (.reg .b)
  | .ldBN n => .ldRN .b n
  | .rlca => .rlca
  | .ldIndNnSp nn => .ldNnSp nn
  | .addHlBc => .addHl .bc
  | .ldAIndBc => .ldAInd .bc
  | .decBc => .decPair .bc
  | .incC => .inc (.reg .c)
  | .decC => .dec (.reg .c)
  | .ldCN n => .ldRN .c n
  | .rrca => .rrca
  | .stop n => .stop n
  | .ldDeNn nn => .ldPairNn .de nn
  | .ldIndDeA => .ldIndA .de
  | .incDe => .incPair .de
  | .incD => .inc (.reg .d)
  | .decD => .dec (.reg .d)
  | .ldDN n => .ldRN .d n
  | .rla => .rla
  | .jrE e => .jr e
  | .addHlDe => .addHl .de
  | .ldAIndDe => .ldAInd .de
  | .decDe => .decPair .de
  | .incE => .inc (.reg .e)
  | .decE => .dec (.reg .e)
  | .ldEN n => .ldRN .e n
  | .rra => .rra
  | .jrNzE e => .jrCc .nz e
  | .ldHlNn nn => .ldPairNn .hl nn
  | .ldHlIncA => .ldIndA .hlInc
  | .incHl => .incPair .hl
  | .incH => .inc (.reg .h)
  | .decH => .dec (.reg .h)
  | .ldHN n => .ldRN .h n
  | .daa => .daa
  | .jrZE e => .jrCc .z e
  | .addHlHl => .addHl .hl
  | .ldAHlInc => .ldAInd .hlInc
  | .decHl => .decPair .hl
  | .incL => .inc (.reg .l)
  | .decL => .dec (.reg .l)
  | .ldLN n => .ldRN .l n
  | .cpl => .cpl
  | .jrNcE e => .jrCc .nc e
  | .ldSpNn nn => .ldPairNn .sp nn
  | .ldHlDecA => .ldIndA .hlDec
  | .incSp => .incPair .sp
  | .incIndHl => .inc .indHl
  | .decIndHl => .dec .indHl
  | .ldIndHlN n => .ldIndN n
  | .scf => .scf
  | .jrCE e => .jrCc .c e
  | .addHlSp => .addHl .sp
  | .ldAHlDec => .ldAInd .hlDec
  | .decSp => .decPair .sp
  | .incA => .inc (.reg .a)
  | .decA => .dec (.reg .a)
  | .ldAN n => .ldRN .a n
  | .ccf => .ccf
  | .ldBB => .ldRR .b .b
  | .ldBC => .ldRR .b .c
  | .ldBD => .ldRR .b .d
  | .ldBE => .ldRR .b .e
  | .ldBH => .ldRR .b .h
  | .ldBL => .ldRR .b .l
  | .ldBIndHl => .ldRInd .b
  | .ldBA => .ldRR .b .a
  | .ldCB => .ldRR .c .b
  | .ldCC => .ldRR .c .c
  | .ldCD => .ldRR .c .d
  | .ldCE => .ldRR .c .e
  | .ldCH => .ldRR .c .h
  | .ldCL => .ldRR .c .l
  | .ldCIndHl => .ldRInd .c
  | .ldCA => .ldRR .c .a
  | .ldDB => .ldRR .d .b
  | .ldDC => .ldRR .d .c
  | .ldDD => .ldRR .d .d
  | .ldDE => .ldRR .d .e
  | .ldDH => .ldRR .d .h
  | .ldDL => .ldRR .d .l
  | .ldDIndHl => .ldRInd .d
  | .ldDA => .ldRR .d .a
  | .ldEB => .ldRR .e .b
  | .ldEC => .ldRR .e .c
  | .ldED => .ldRR .e .d
  | .ldEE => .ldRR .e .e
  | .ldEH => .ldRR .e .h
  | .ldEL => .ldRR .e .l
  | .ldEIndHl => .ldRInd .e
  | .ldEA => .ldRR .e .a
  | .ldHB => .ldRR .h .b
  | .ldHC => .ldRR .h .c
  | .ldHD => .ldRR .h .d
  | .ldHE => .ldRR .h .e
  | .ldHH => .ldRR .h .h
  | .ldHL => .ldRR .h .l
  | .ldHIndHl => .ldRInd .h
  | .ldHA => .ldRR .h .a
  | .ldLB => .ldRR .l .b
  | .ldLC => .ldRR .l .c
  | .ldLD => .ldRR .l .d
  | .ldLE => .ldRR .l .e
  | .ldLH => .ldRR .l .h
  | .ldLL => .ldRR .l .l
  | .ldLIndHl => .ldRInd .l
  | .ldLA => .ldRR .l .a
  | .ldIndHlB => .ldIndR .b
  | .ldIndHlC => .ldIndR .c
  | .ldIndHlD => .ldIndR .d
  | .ldIndHlE => .ldIndR .e
  | .ldIndHlH => .ldIndR .h
  | .ldIndHlL => .ldIndR .l
  | .halt => .halt
  | .ldIndHlA => .ldIndR .a
  | .ldAB => .ldRR .a .b
  | .ldAC => .ldRR .a .c
  | .ldAD => .ldRR .a .d
  | .ldAE => .ldRR .a .e
  | .ldAH => .ldRR .a .h
  | .ldAL => .ldRR .a .l
  | .ldAIndHl => .ldRInd .a
  | .ldAA => .ldRR .a .a
  | .addAB => .alu .add (.reg .b)
  | .addAC => .alu .add (.reg .c)
  | .addAD => .alu .add (.reg .d)
  | .addAE => .alu .add (.reg .e)
  | .addAH => .alu .add (.reg .h)
  | .addAL => .alu .add (.reg .l)
  | .addAIndHl => .alu .add .indHl
  | .addAA => .alu .add (.reg .a)
  | .adcAB => .alu .adc (.reg .b)
  | .adcAC => .alu .adc (.reg .c)
  | .adcAD => .alu .adc (.reg .d)
  | .adcAE => .alu .adc (.reg .e)
  | .adcAH => .alu .adc (.reg .h)
  | .adcAL => .alu .adc (.reg .l)
  | .adcAIndHl => .alu .adc .indHl
  | .adcAA => .alu .adc (.reg .a)
  | .subB => .alu .sub (.reg .b)
  | .subC => .alu .sub (.reg .c)
  | .subD => .alu .sub (.reg .d)
  | .subE => .alu .sub (.reg .e)
  | .subH => .alu .sub (.reg .h)
  | .subL => .alu .sub (.reg .l)
  | .subIndHl => .alu .sub .indHl
  | .subA => .alu .sub (.reg .a)
  | .sbcAB => .alu .sbc (.reg .b)
  | .sbcAC => .alu .sbc (.reg .c)
  | .sbcAD => .alu .sbc (.reg .d)
  | .sbcAE => .alu .sbc (.reg .e)
  | .sbcAH => .alu .sbc (.reg .h)
  | .sbcAL => .alu .sbc (.reg .l)
  | .sbcAIndHl => .alu .sbc .indHl
  | .sbcAA => .alu .sbc (.reg .a)
  | .andB => .alu .and (.reg .b)
  | .andC => .alu .and (.reg .c)
  | .andD => .alu .and (.reg .d)
  | .andE => .alu .and (.reg .e)
  | .andH => .alu .and (.reg .h)
  | .andL => .alu .and (.reg .l)
  | .andIndHl => .alu .and .indHl
  | .andA => .alu .and (.reg .a)
  | .xorB => .alu .xor (.reg .b)
  | .xorC => .alu .xor (.reg .c)
  | .xorD => .alu .xor (.reg .d)
  | .xorE => .alu .xor (.reg .e)
  | .xorH => .alu .xor (.reg .h)
  | .xorL => .alu .xor (.reg .l)
  | .xorIndHl => .alu .xor .indHl
  | .xorA => .alu .xor (.reg .a)
  | .orB => .alu .or (.reg .b)
  | .orC => .alu .or (.reg .c)
  | .orD => .alu .or (.reg .d)
  | .orE => .alu .or (.reg .e)
  | .orH => .alu .or (.reg .h)
  | .orL => .alu .or (.reg .l)
  | .orIndHl => .alu .or .indHl
  | .orA => .alu .or (.reg .a)
  | .cpB => .alu .cp (.reg .b)
  | .cpC => .alu .cp (.reg .c)
  | .cpD => .alu .cp (.reg .d)
  | .cpE => .alu .cp (.reg .e)
  | .cpH => .alu .cp (.reg .h)
  | .cpL => .alu .cp (.reg .l)
  | .cpIndHl => .alu .cp .indHl
  | .cpA => .alu .cp (.reg .a)
  | .retNz => .retCc .nz
  | .popBc => .pop .bc
  | .jpNzNn nn => .jpCc .nz nn
  | .jpNn nn => .jpNn nn
  | .callNzNn nn => .callCc .nz nn
  | .pushBc => .push .bc
  | .addAN n => .aluN .add n
  | .rst00h => .rst .i0
  | .retZ => .retCc .z
  | .ret => .ret
  | .jpZNn nn => .jpCc .z nn
  | .prefixCb => .prefixCb
  | .callZNn nn => .callCc .z nn
  | .callNn nn => .callNn nn
  | .adcAN n => .aluN .adc n
  | .rst08h => .rst .i1
  | .retNc => .retCc .nc
  | .popDe => .pop .de
  | .jpNcNn nn => .jpCc .nc nn
  | .illegalD3 => .illegal .xD3
  | .callNcNn nn => .callCc .nc nn
  | .pushDe => .push .de
  | .subN n => .aluN .sub n
  | .rst10h => .rst .i2
  | .retC => .retCc .c
  | .reti => .reti
  | .jpCNn nn => .jpCc .c nn
  | .illegalDB => .illegal .xDB
  | .callCNn nn => .callCc .c nn
  | .illegalDD => .illegal .xDD
  | .sbcAN n => .aluN .sbc n
  | .rst18h => .rst .i3
  | .ldhIndNA n => .ldhNA n
  | .popHl => .pop .hl
  | .ldhIndCA => .ldhCA
  | .illegalE3 => .illegal .xE3
  | .illegalE4 => .illegal .xE4
  | .pushHl => .push .hl
  | .andN n => .aluN .and n
  | .rst20h => .rst .i4
  | .addSpE e => .addSpE e
  | .jpHl => .jpHl
  | .ldIndNnA nn => .ldNnA nn
  | .illegalEB => .illegal .xEB
  | .illegalEC => .illegal .xEC
  | .illegalED => .illegal .xED
  | .xorN n => .aluN .xor n
  | .rst28h => .rst .i5
  | .ldhAIndN n => .ldhAN n
  | .popAf => .pop .af
  | .ldhAIndC => .ldhAC
  | .di => .di
  | .illegalF4 => .illegal .xF4
  | .pushAf => .push .af
  | .orN n => .aluN .or n
  | .rst30h => .rst .i6
  | .ldHlSpE e => .ldHlSpE e
  | .ldSpHl => .ldSpHl
  | .ldAIndNn nn => .ldANn nn
  | .ei => .ei
  | .illegalFC => .illegal .xFC
  | .illegalFD => .illegal .xFD
  | .cpN n => .aluN .cp n
  | .rst38h => .rst .i7
  | .rlcB => .rot .rlc (.reg .b)
  | .rlcC => .rot .rlc (.reg .c)
  | .rlcD => .rot .rlc (.reg .d)
  | .rlcE => .rot .rlc (.reg .e)
  | .rlcH => .rot .rlc (.reg .h)
  | .rlcL => .rot .rlc (.reg .l)
  | .rlcIndHl => .rot .rlc .indHl
  | .rlcA => .rot .rlc (.reg .a)
  | .rrcB => .rot .rrc (.reg .b)
  | .rrcC => .rot .rrc (.reg .c)
  | .rrcD => .rot .rrc (.reg .d)
  | .rrcE => .rot .rrc (.reg .e)
  | .rrcH => .rot .rrc (.reg .h)
  | .rrcL => .rot .rrc (.reg .l)
  | .rrcIndHl => .rot .rrc .indHl
  | .rrcA => .rot .rrc (.reg .a)
  | .rlB => .rot .rl (.reg .b)
  | .rlC => .rot .rl (.reg .c)
  | .rlD => .rot .rl (.reg .d)
  | .rlE => .rot .rl (.reg .e)
  | .rlH => .rot .rl (.reg .h)
  | .rlL => .rot .rl (.reg .l)
  | .rlIndHl => .rot .rl .indHl
  | .rlA => .rot .rl (.reg .a)
  | .rrB => .rot .rr (.reg .b)
  | .rrC => .rot .rr (.reg .c)
  | .rrD => .rot .rr (.reg .d)
  | .rrE => .rot .rr (.reg .e)
  | .rrH => .rot .rr (.reg .h)
  | .rrL => .rot .rr (.reg .l)
  | .rrIndHl => .rot .rr .indHl
  | .rrA => .rot .rr (.reg .a)
  | .slaB => .rot .sla (.reg .b)
  | .slaC => .rot .sla (.reg .c)
  | .slaD => .rot .sla (.reg .d)
  | .slaE => .rot .sla (.reg .e)
  | .slaH => .rot .sla (.reg .h)
  | .slaL => .rot .sla (.reg .l)
  | .slaIndHl => .rot .sla .indHl
  | .slaA => .rot .sla (.reg .a)
  | .sraB => .rot .sra (.reg .b)
  | .sraC => .rot .sra (.reg .c)
  | .sraD => .rot .sra (.reg .d)
  | .sraE => .rot .sra (.reg .e)
  | .sraH => .rot .sra (.reg .h)
  | .sraL => .rot .sra (.reg .l)
  | .sraIndHl => .rot .sra .indHl
  | .sraA => .rot .sra (.reg .a)
  | .swapB => .rot .swap (.reg .b)
  | .swapC => .rot .swap (.reg .c)
  | .swapD => .rot .swap (.reg .d)
  | .swapE => .rot .swap (.reg .e)
  | .swapH => .rot .swap (.reg .h)
  | .swapL => .rot .swap (.reg .l)
  | .swapIndHl => .rot .swap .indHl
  | .swapA => .rot .swap (.reg .a)
  | .srlB => .rot .srl (.reg .b)
  | .srlC => .rot .srl (.reg .c)
  | .srlD => .rot .srl (.reg .d)
  | .srlE => .rot .srl (.reg .e)
  | .srlH => .rot .srl (.reg .h)
  | .srlL => .rot .srl (.reg .l)
  | .srlIndHl => .rot .srl .indHl
  | .srlA => .rot .srl (.reg .a)
  | .bit0B => .bit .i0 (.reg .b)
  | .bit0C => .bit .i0 (.reg .c)
  | .bit0D => .bit .i0 (.reg .d)
  | .bit0E => .bit .i0 (.reg .e)
  | .bit0H => .bit .i0 (.reg .h)
  | .bit0L => .bit .i0 (.reg .l)
  | .bit0IndHl => .bit .i0 .indHl
  | .bit0A => .bit .i0 (.reg .a)
  | .bit1B => .bit .i1 (.reg .b)
  | .bit1C => .bit .i1 (.reg .c)
  | .bit1D => .bit .i1 (.reg .d)
  | .bit1E => .bit .i1 (.reg .e)
  | .bit1H => .bit .i1 (.reg .h)
  | .bit1L => .bit .i1 (.reg .l)
  | .bit1IndHl => .bit .i1 .indHl
  | .bit1A => .bit .i1 (.reg .a)
  | .bit2B => .bit .i2 (.reg .b)
  | .bit2C => .bit .i2 (.reg .c)
  | .bit2D => .bit .i2 (.reg .d)
  | .bit2E => .bit .i2 (.reg .e)
  | .bit2H => .bit .i2 (.reg .h)
  | .bit2L => .bit .i2 (.reg .l)
  | .bit2IndHl => .bit .i2 .indHl
  | .bit2A => .bit .i2 (.reg .a)
  | .bit3B => .bit .i3 (.reg .b)
  | .bit3C => .bit .i3 (.reg .c)
  | .bit3D => .bit .i3 (.reg .d)
  | .bit3E => .bit .i3 (.reg .e)
  | .bit3H => .bit .i3 (.reg .h)
  | .bit3L => .bit .i3 (.reg .l)
  | .bit3IndHl => .bit .i3 .indHl
  | .bit3A => .bit .i3 (.reg .a)
  | .bit4B => .bit .i4 (.reg .b)
  | .bit4C => .bit .i4 (.reg .c)
  | .bit4D => .bit .i4 (.reg .d)
  | .bit4E => .bit .i4 (.reg .e)
  | .bit4H => .bit .i4 (.reg .h)
  | .bit4L => .bit .i4 (.reg .l)
  | .bit4IndHl => .bit .i4 .indHl
  | .bit4A => .bit .i4 (.reg .a)
  | .bit5B => .bit .i5 (.reg .b)
  | .bit5C => .bit .i5 (.reg .c)
  | .bit5D => .bit .i5 (.reg .d)
  | .bit5E => .bit .i5 (.reg .e)
  | .bit5H => .bit .i5 (.reg .h)
  | .bit5L => .bit .i5 (.reg .l)
  | .bit5IndHl => .bit .i5 .indHl
  | .bit5A => .bit .i5 (.reg .a)
  | .bit6B => .bit .i6 (.reg .b)
  | .bit6C => .bit .i6 (.reg .c)
  | .bit6D => .bit .i6 (.reg .d)
  | .bit6E => .bit .i6 (.reg .e)
  | .bit6H => .bit .i6 (.reg .h)
  | .bit6L => .bit .i6 (.reg .l)
  | .bit6IndHl => .bit .i6 .indHl
  | .bit6A => .bit .i6 (.reg .a)
  | .bit7B => .bit .i7 (.reg .b)
  | .bit7C => .bit .i7 (.reg .c)
  | .bit7D => .bit .i7 (.reg .d)
  | .bit7E => .bit .i7 (.reg .e)
  | .bit7H => .bit .i7 (.reg .h)
  | .bit7L => .bit .i7 (.reg .l)
  | .bit7IndHl => .bit .i7 .indHl
  | .bit7A => .bit .i7 (.reg .a)
  | .res0B => .res .i0 (.reg .b)
  | .res0C => .res .i0 (.reg .c)
  | .res0D => .res .i0 (.reg .d)
  | .res0E => .res .i0 (.reg .e)
  | .res0H => .res .i0 (.reg .h)
  | .res0L => .res .i0 (.reg .l)
  | .res0IndHl => .res .i0 .indHl
  | .res0A => .res .i0 (.reg .a)
  | .res1B => .res .i1 (.reg .b)
  | .res1C => .res .i1 (.reg .c)
  | .res1D => .res .i1 (.reg .d)
  | .res1E => .res .i1 (.reg .e)
  | .res1H => .res .i1 (.reg .h)
  | .res1L => .res .i1 (.reg .l)
  | .res1IndHl => .res .i1 .indHl
  | .res1A => .res .i1 (.reg .a)
  | .res2B => .res .i2 (.reg .b)
  | .res2C => .res .i2 (.reg .c)
  | .res2D => .res .i2 (.reg .d)
  | .res2E => .res .i2 (.reg .e)
  | .res2H => .res .i2 (.reg .h)
  | .res2L => .res .i2 (.reg .l)
  | .res2IndHl => .res .i2 .indHl
  | .res2A => .res .i2 (.reg .a)
  | .res3B => .res .i3 (.reg .b)
  | .res3C => .res .i3 (.reg .c)
  | .res3D => .res .i3 (.reg .d)
  | .res3E => .res .i3 (.reg .e)
  | .res3H => .res .i3 (.reg .h)
  | .res3L => .res .i3 (.reg .l)
  | .res3IndHl => .res .i3 .indHl
  | .res3A => .res .i3 (.reg .a)
  | .res4B => .res .i4 (.reg .b)
  | .res4C => .res .i4 (.reg .c)
  | .res4D => .res .i4 (.reg .d)
  | .res4E => .res .i4 (.reg .e)
  | .res4H => .res .i4 (.reg .h)
  | .res4L => .res .i4 (.reg .l)
  | .res4IndHl => .res .i4 .indHl
  | .res4A => .res .i4 (.reg .a)
  | .res5B => .res .i5 (.reg .b)
  | .res5C => .res .i5 (.reg .c)
  | .res5D => .res .i5 (.reg .d)
  | .res5E => .res .i5 (.reg .e)
  | .res5H => .res .i5 (.reg .h)
  | .res5L => .res .i5 (.reg .l)
  | .res5IndHl => .res .i5 .indHl
  | .res5A => .res .i5 (.reg .a)
  | .res6B => .res .i6 (.reg .b)
  | .res6C => .res .i6 (.reg .c)
  | .res6D => .res .i6 (.reg .d)
  | .res6E => .res .i6 (.reg .e)
  | .res6H => .res .i6 (.reg .h)
  | .res6L => .res .i6 (.reg .l)
  | .res6IndHl => .res .i6 .indHl
  | .res6A => .res .i6 (.reg .a)
  | .res7B => .res .i7 (.reg .b)
  | .res7C => .res .i7 (.reg .c)
  | .res7D => .res .i7 (.reg .d)
  | .res7E => .res .i7 (.reg .e)
  | .res7H => .res .i7 (.reg .h)
  | .res7L => .res .i7 (.reg .l)
  | .res7IndHl => .res .i7 .indHl
  | .res7A => .res .i7 (.reg .a)
  | .set0B => .set .i0 (.reg .b)
  | .set0C => .set .i0 (.reg .c)
  | .set0D => .set .i0 (.reg .d)
  | .set0E => .set .i0 (.reg .e)
  | .set0H => .set .i0 (.reg .h)
  | .set0L => .set .i0 (.reg .l)
  | .set0IndHl => .set .i0 .indHl
  | .set0A => .set .i0 (.reg .a)
  | .set1B => .set .i1 (.reg .b)
  | .set1C => .set .i1 (.reg .c)
  | .set1D => .set .i1 (.reg .d)
  | .set1E => .set .i1 (.reg .e)
  | .set1H => .set .i1 (.reg .h)
  | .set1L => .set .i1 (.reg .l)
  | .set1IndHl => .set .i1 .indHl
  | .set1A => .set .i1 (.reg .a)
  | .set2B => .set .i2 (.reg .b)
  | .set2C => .set .i2 (.reg .c)
  | .set2D => .set .i2 (.reg .d)
  | .set2E => .set .i2 (.reg .e)
  | .set2H => .set .i2 (.reg .h)
  | .set2L => .set .i2 (.reg .l)
  | .set2IndHl => .set .i2 .indHl
  | .set2A => .set .i2 (.reg .a)
  | .set3B => .set .i3 (.reg .b)
  | .set3C => .set .i3 (.reg .c)
  | .set3D => .set .i3 (.reg .d)
  | .set3E => .set .i3 (.reg .e)
  | .set3H => .set .i3 (.reg .h)
  | .set3L => .set .i3 (.reg .l)
  | .set3IndHl => .set .i3 .indHl
  | .set3A => .set .i3 (.reg .a)
  | .set4B => .set .i4 (.reg .b)
  | .set4C => .set .i4 (.reg .c)
  | .set4D => .set .i4 (.reg .d)
  | .set4E => .set .i4 (.reg .e)
  | .set4H => .set .i4 (.reg .h)
  | .set4L => .set .i4 (.reg .l)
  | .set4IndHl => .set .i4 .indHl
  | .set4A => .set .i4 (.reg .a)
  | .set5B => .set .i5 (.reg .b)
  | .set5C => .set .i5 (.reg .c)
  | .set5D => .set .i5 (.reg .d)
  | .set5E => .set .i5 (.reg .e)
  | .set5H => .set .i5 (.reg .h)
  | .set5L => .set .i5 (.reg .l)
  | .set5IndHl => .set .i5 .indHl
  | .set5A => .set .i5 (.reg .a)
  | .set6B => .set .i6 (.reg .b)
  | .set6C => .set .i6 (.reg .c)
  | .set6D => .set .i6 (.reg .d)
  | .set6E => .set .i6 (.reg .e)
  | .set6H => .set .i6 (.reg .h)
  | .set6L => .set .i6 (.reg .l)
  | .set6IndHl => .set .i6 .indHl
  | .set6A => .set .i6 (.reg .a)
  | .set7B => .set .i7 (.reg .b)
  | .set7C => .set .i7 (.reg .c)
  | .set7D => .set .i7 (.reg .d)
  | .set7E => .set .i7 (.reg .e)
  | .set7H => .set .i7 (.reg .h)
  | .set7L => .set .i7 (.reg .l)
  | .set7IndHl => .set .i7 .indHl
  | .set7A => .set .i7 (.reg .a)

/-- `LD rr,nn` (R152). -/
def Instr.ldPairNnOf : Pair → Word → Instr
  | .bc, nn => .ldBcNn nn
  | .de, nn => .ldDeNn nn
  | .hl, nn => .ldHlNn nn
  | .sp, nn => .ldSpNn nn

/-- `LD (BC),A`, `LD (DE),A`, `LD (HL+),A`, `LD (HL-),A` (R128, R129, R136, R137). -/
def Instr.ldIndAOf : Indirect → Instr
  | .bc => .ldIndBcA
  | .de => .ldIndDeA
  | .hlInc => .ldHlIncA
  | .hlDec => .ldHlDecA

/-- `INC rr` (R211). -/
def Instr.incPairOf : Pair → Instr
  | .bc => .incBc
  | .de => .incDe
  | .hl => .incHl
  | .sp => .incSp

/-- `INC r` and `INC (HL)` (R192, R193). -/
def Instr.incOf : Opnd → Instr
  | .reg .b => .incB
  | .reg .c => .incC
  | .reg .d => .incD
  | .reg .e => .incE
  | .reg .h => .incH
  | .reg .l => .incL
  | .indHl => .incIndHl
  | .reg .a => .incA

/-- `DEC r` and `DEC (HL)` (R194, R195). -/
def Instr.decOf : Opnd → Instr
  | .reg .b => .decB
  | .reg .c => .decC
  | .reg .d => .decD
  | .reg .e => .decE
  | .reg .h => .decH
  | .reg .l => .decL
  | .indHl => .decIndHl
  | .reg .a => .decA

/-- `LD r,n` (R122). -/
def Instr.ldRNOf : Reg8 → Byte → Instr
  | .b, n => .ldBN n
  | .c, n => .ldCN n
  | .d, n => .ldDN n
  | .e, n => .ldEN n
  | .h, n => .ldHN n
  | .l, n => .ldLN n
  | .a, n => .ldAN n

/-- `ADD HL,rr` (R210). -/
def Instr.addHlOf : Pair → Instr
  | .bc => .addHlBc
  | .de => .addHlDe
  | .hl => .addHlHl
  | .sp => .addHlSp

/-- `LD A,(BC)`, `LD A,(DE)`, `LD A,(HL+)`, `LD A,(HL-)` (R126, R127, R138, R139). -/
def Instr.ldAIndOf : Indirect → Instr
  | .bc => .ldAIndBc
  | .de => .ldAIndDe
  | .hlInc => .ldAHlInc
  | .hlDec => .ldAHlDec

/-- `DEC rr` (R212). -/
def Instr.decPairOf : Pair → Instr
  | .bc => .decBc
  | .de => .decDe
  | .hl => .decHl
  | .sp => .decSp

/-- `JR cc,e` (R255). -/
def Instr.jrCcOf : Cond → Byte → Instr
  | .nz, e => .jrNzE e
  | .z, e => .jrZE e
  | .nc, e => .jrNcE e
  | .c, e => .jrCE e

/-- `LD r,s` (R121). -/
def Instr.ldRROf : Reg8 → Reg8 → Instr
  | .b, .b => .ldBB
  | .b, .c => .ldBC
  | .b, .d => .ldBD
  | .b, .e => .ldBE
  | .b, .h => .ldBH
  | .b, .l => .ldBL
  | .b, .a => .ldBA
  | .c, .b => .ldCB
  | .c, .c => .ldCC
  | .c, .d => .ldCD
  | .c, .e => .ldCE
  | .c, .h => .ldCH
  | .c, .l => .ldCL
  | .c, .a => .ldCA
  | .d, .b => .ldDB
  | .d, .c => .ldDC
  | .d, .d => .ldDD
  | .d, .e => .ldDE
  | .d, .h => .ldDH
  | .d, .l => .ldDL
  | .d, .a => .ldDA
  | .e, .b => .ldEB
  | .e, .c => .ldEC
  | .e, .d => .ldED
  | .e, .e => .ldEE
  | .e, .h => .ldEH
  | .e, .l => .ldEL
  | .e, .a => .ldEA
  | .h, .b => .ldHB
  | .h, .c => .ldHC
  | .h, .d => .ldHD
  | .h, .e => .ldHE
  | .h, .h => .ldHH
  | .h, .l => .ldHL
  | .h, .a => .ldHA
  | .l, .b => .ldLB
  | .l, .c => .ldLC
  | .l, .d => .ldLD
  | .l, .e => .ldLE
  | .l, .h => .ldLH
  | .l, .l => .ldLL
  | .l, .a => .ldLA
  | .a, .b => .ldAB
  | .a, .c => .ldAC
  | .a, .d => .ldAD
  | .a, .e => .ldAE
  | .a, .h => .ldAH
  | .a, .l => .ldAL
  | .a, .a => .ldAA

/-- `LD r,(HL)` (R123). -/
def Instr.ldRIndOf : Reg8 → Instr
  | .b => .ldBIndHl
  | .c => .ldCIndHl
  | .d => .ldDIndHl
  | .e => .ldEIndHl
  | .h => .ldHIndHl
  | .l => .ldLIndHl
  | .a => .ldAIndHl

/-- `LD (HL),s` (R124). -/
def Instr.ldIndROf : Reg8 → Instr
  | .b => .ldIndHlB
  | .c => .ldIndHlC
  | .d => .ldIndHlD
  | .e => .ldIndHlE
  | .h => .ldIndHlH
  | .l => .ldIndHlL
  | .a => .ldIndHlA

/-- The accumulator operations on a register or the byte at HL (R168 to R190). -/
def Instr.aluOf : AluOp → Opnd → Instr
  | .add, .reg .b => .addAB
  | .add, .reg .c => .addAC
  | .add, .reg .d => .addAD
  | .add, .reg .e => .addAE
  | .add, .reg .h => .addAH
  | .add, .reg .l => .addAL
  | .add, .indHl => .addAIndHl
  | .add, .reg .a => .addAA
  | .adc, .reg .b => .adcAB
  | .adc, .reg .c => .adcAC
  | .adc, .reg .d => .adcAD
  | .adc, .reg .e => .adcAE
  | .adc, .reg .h => .adcAH
  | .adc, .reg .l => .adcAL
  | .adc, .indHl => .adcAIndHl
  | .adc, .reg .a => .adcAA
  | .sub, .reg .b => .subB
  | .sub, .reg .c => .subC
  | .sub, .reg .d => .subD
  | .sub, .reg .e => .subE
  | .sub, .reg .h => .subH
  | .sub, .reg .l => .subL
  | .sub, .indHl => .subIndHl
  | .sub, .reg .a => .subA
  | .sbc, .reg .b => .sbcAB
  | .sbc, .reg .c => .sbcAC
  | .sbc, .reg .d => .sbcAD
  | .sbc, .reg .e => .sbcAE
  | .sbc, .reg .h => .sbcAH
  | .sbc, .reg .l => .sbcAL
  | .sbc, .indHl => .sbcAIndHl
  | .sbc, .reg .a => .sbcAA
  | .and, .reg .b => .andB
  | .and, .reg .c => .andC
  | .and, .reg .d => .andD
  | .and, .reg .e => .andE
  | .and, .reg .h => .andH
  | .and, .reg .l => .andL
  | .and, .indHl => .andIndHl
  | .and, .reg .a => .andA
  | .xor, .reg .b => .xorB
  | .xor, .reg .c => .xorC
  | .xor, .reg .d => .xorD
  | .xor, .reg .e => .xorE
  | .xor, .reg .h => .xorH
  | .xor, .reg .l => .xorL
  | .xor, .indHl => .xorIndHl
  | .xor, .reg .a => .xorA
  | .or, .reg .b => .orB
  | .or, .reg .c => .orC
  | .or, .reg .d => .orD
  | .or, .reg .e => .orE
  | .or, .reg .h => .orH
  | .or, .reg .l => .orL
  | .or, .indHl => .orIndHl
  | .or, .reg .a => .orA
  | .cp, .reg .b => .cpB
  | .cp, .reg .c => .cpC
  | .cp, .reg .d => .cpD
  | .cp, .reg .e => .cpE
  | .cp, .reg .h => .cpH
  | .cp, .reg .l => .cpL
  | .cp, .indHl => .cpIndHl
  | .cp, .reg .a => .cpA

/-- `RET cc` (R259). -/
def Instr.retCcOf : Cond → Instr
  | .nz => .retNz
  | .z => .retZ
  | .nc => .retNc
  | .c => .retC

/-- `POP qq` (R157). -/
def Instr.popOf : StackPair → Instr
  | .bc => .popBc
  | .de => .popDe
  | .hl => .popHl
  | .af => .popAf

/-- `JP cc,nn` (R252). -/
def Instr.jpCcOf : Cond → Word → Instr
  | .nz, nn => .jpNzNn nn
  | .z, nn => .jpZNn nn
  | .nc, nn => .jpNcNn nn
  | .c, nn => .jpCNn nn

/-- `CALL cc,nn` (R257). -/
def Instr.callCcOf : Cond → Word → Instr
  | .nz, nn => .callNzNn nn
  | .z, nn => .callZNn nn
  | .nc, nn => .callNcNn nn
  | .c, nn => .callCNn nn

/-- `PUSH qq` (R156). -/
def Instr.pushOf : StackPair → Instr
  | .bc => .pushBc
  | .de => .pushDe
  | .hl => .pushHl
  | .af => .pushAf

/-- The accumulator operations on an immediate (R170 to R191). -/
def Instr.aluNOf : AluOp → Byte → Instr
  | .add, n => .addAN n
  | .adc, n => .adcAN n
  | .sub, n => .subN n
  | .sbc, n => .sbcAN n
  | .and, n => .andN n
  | .xor, n => .xorN n
  | .or, n => .orN n
  | .cp, n => .cpN n

/-- `RST t*8` (R261). -/
def Instr.rstOf : Idx3 → Instr
  | .i0 => .rst00h
  | .i1 => .rst08h
  | .i2 => .rst10h
  | .i3 => .rst18h
  | .i4 => .rst20h
  | .i5 => .rst28h
  | .i6 => .rst30h
  | .i7 => .rst38h

/-- The illegal opcodes (R110, R275). -/
def Instr.illegalOf : IllegalOp → Instr
  | .xD3 => .illegalD3
  | .xDB => .illegalDB
  | .xDD => .illegalDD
  | .xE3 => .illegalE3
  | .xE4 => .illegalE4
  | .xEB => .illegalEB
  | .xEC => .illegalEC
  | .xED => .illegalED
  | .xF4 => .illegalF4
  | .xFC => .illegalFC
  | .xFD => .illegalFD

/-- The extended rotates and shifts (R225 to R240). -/
def Instr.rotOf : RotOp → Opnd → Instr
  | .rlc, .reg .b => .rlcB
  | .rlc, .reg .c => .rlcC
  | .rlc, .reg .d => .rlcD
  | .rlc, .reg .e => .rlcE
  | .rlc, .reg .h => .rlcH
  | .rlc, .reg .l => .rlcL
  | .rlc, .indHl => .rlcIndHl
  | .rlc, .reg .a => .rlcA
  | .rrc, .reg .b => .rrcB
  | .rrc, .reg .c => .rrcC
  | .rrc, .reg .d => .rrcD
  | .rrc, .reg .e => .rrcE
  | .rrc, .reg .h => .rrcH
  | .rrc, .reg .l => .rrcL
  | .rrc, .indHl => .rrcIndHl
  | .rrc, .reg .a => .rrcA
  | .rl, .reg .b => .rlB
  | .rl, .reg .c => .rlC
  | .rl, .reg .d => .rlD
  | .rl, .reg .e => .rlE
  | .rl, .reg .h => .rlH
  | .rl, .reg .l => .rlL
  | .rl, .indHl => .rlIndHl
  | .rl, .reg .a => .rlA
  | .rr, .reg .b => .rrB
  | .rr, .reg .c => .rrC
  | .rr, .reg .d => .rrD
  | .rr, .reg .e => .rrE
  | .rr, .reg .h => .rrH
  | .rr, .reg .l => .rrL
  | .rr, .indHl => .rrIndHl
  | .rr, .reg .a => .rrA
  | .sla, .reg .b => .slaB
  | .sla, .reg .c => .slaC
  | .sla, .reg .d => .slaD
  | .sla, .reg .e => .slaE
  | .sla, .reg .h => .slaH
  | .sla, .reg .l => .slaL
  | .sla, .indHl => .slaIndHl
  | .sla, .reg .a => .slaA
  | .sra, .reg .b => .sraB
  | .sra, .reg .c => .sraC
  | .sra, .reg .d => .sraD
  | .sra, .reg .e => .sraE
  | .sra, .reg .h => .sraH
  | .sra, .reg .l => .sraL
  | .sra, .indHl => .sraIndHl
  | .sra, .reg .a => .sraA
  | .swap, .reg .b => .swapB
  | .swap, .reg .c => .swapC
  | .swap, .reg .d => .swapD
  | .swap, .reg .e => .swapE
  | .swap, .reg .h => .swapH
  | .swap, .reg .l => .swapL
  | .swap, .indHl => .swapIndHl
  | .swap, .reg .a => .swapA
  | .srl, .reg .b => .srlB
  | .srl, .reg .c => .srlC
  | .srl, .reg .d => .srlD
  | .srl, .reg .e => .srlE
  | .srl, .reg .h => .srlH
  | .srl, .reg .l => .srlL
  | .srl, .indHl => .srlIndHl
  | .srl, .reg .a => .srlA

/-- `BIT b,s` (R241, R242). -/
def Instr.bitOf : Idx3 → Opnd → Instr
  | .i0, .reg .b => .bit0B
  | .i0, .reg .c => .bit0C
  | .i0, .reg .d => .bit0D
  | .i0, .reg .e => .bit0E
  | .i0, .reg .h => .bit0H
  | .i0, .reg .l => .bit0L
  | .i0, .indHl => .bit0IndHl
  | .i0, .reg .a => .bit0A
  | .i1, .reg .b => .bit1B
  | .i1, .reg .c => .bit1C
  | .i1, .reg .d => .bit1D
  | .i1, .reg .e => .bit1E
  | .i1, .reg .h => .bit1H
  | .i1, .reg .l => .bit1L
  | .i1, .indHl => .bit1IndHl
  | .i1, .reg .a => .bit1A
  | .i2, .reg .b => .bit2B
  | .i2, .reg .c => .bit2C
  | .i2, .reg .d => .bit2D
  | .i2, .reg .e => .bit2E
  | .i2, .reg .h => .bit2H
  | .i2, .reg .l => .bit2L
  | .i2, .indHl => .bit2IndHl
  | .i2, .reg .a => .bit2A
  | .i3, .reg .b => .bit3B
  | .i3, .reg .c => .bit3C
  | .i3, .reg .d => .bit3D
  | .i3, .reg .e => .bit3E
  | .i3, .reg .h => .bit3H
  | .i3, .reg .l => .bit3L
  | .i3, .indHl => .bit3IndHl
  | .i3, .reg .a => .bit3A
  | .i4, .reg .b => .bit4B
  | .i4, .reg .c => .bit4C
  | .i4, .reg .d => .bit4D
  | .i4, .reg .e => .bit4E
  | .i4, .reg .h => .bit4H
  | .i4, .reg .l => .bit4L
  | .i4, .indHl => .bit4IndHl
  | .i4, .reg .a => .bit4A
  | .i5, .reg .b => .bit5B
  | .i5, .reg .c => .bit5C
  | .i5, .reg .d => .bit5D
  | .i5, .reg .e => .bit5E
  | .i5, .reg .h => .bit5H
  | .i5, .reg .l => .bit5L
  | .i5, .indHl => .bit5IndHl
  | .i5, .reg .a => .bit5A
  | .i6, .reg .b => .bit6B
  | .i6, .reg .c => .bit6C
  | .i6, .reg .d => .bit6D
  | .i6, .reg .e => .bit6E
  | .i6, .reg .h => .bit6H
  | .i6, .reg .l => .bit6L
  | .i6, .indHl => .bit6IndHl
  | .i6, .reg .a => .bit6A
  | .i7, .reg .b => .bit7B
  | .i7, .reg .c => .bit7C
  | .i7, .reg .d => .bit7D
  | .i7, .reg .e => .bit7E
  | .i7, .reg .h => .bit7H
  | .i7, .reg .l => .bit7L
  | .i7, .indHl => .bit7IndHl
  | .i7, .reg .a => .bit7A

/-- `RES b,s` (R243, R244). -/
def Instr.resOf : Idx3 → Opnd → Instr
  | .i0, .reg .b => .res0B
  | .i0, .reg .c => .res0C
  | .i0, .reg .d => .res0D
  | .i0, .reg .e => .res0E
  | .i0, .reg .h => .res0H
  | .i0, .reg .l => .res0L
  | .i0, .indHl => .res0IndHl
  | .i0, .reg .a => .res0A
  | .i1, .reg .b => .res1B
  | .i1, .reg .c => .res1C
  | .i1, .reg .d => .res1D
  | .i1, .reg .e => .res1E
  | .i1, .reg .h => .res1H
  | .i1, .reg .l => .res1L
  | .i1, .indHl => .res1IndHl
  | .i1, .reg .a => .res1A
  | .i2, .reg .b => .res2B
  | .i2, .reg .c => .res2C
  | .i2, .reg .d => .res2D
  | .i2, .reg .e => .res2E
  | .i2, .reg .h => .res2H
  | .i2, .reg .l => .res2L
  | .i2, .indHl => .res2IndHl
  | .i2, .reg .a => .res2A
  | .i3, .reg .b => .res3B
  | .i3, .reg .c => .res3C
  | .i3, .reg .d => .res3D
  | .i3, .reg .e => .res3E
  | .i3, .reg .h => .res3H
  | .i3, .reg .l => .res3L
  | .i3, .indHl => .res3IndHl
  | .i3, .reg .a => .res3A
  | .i4, .reg .b => .res4B
  | .i4, .reg .c => .res4C
  | .i4, .reg .d => .res4D
  | .i4, .reg .e => .res4E
  | .i4, .reg .h => .res4H
  | .i4, .reg .l => .res4L
  | .i4, .indHl => .res4IndHl
  | .i4, .reg .a => .res4A
  | .i5, .reg .b => .res5B
  | .i5, .reg .c => .res5C
  | .i5, .reg .d => .res5D
  | .i5, .reg .e => .res5E
  | .i5, .reg .h => .res5H
  | .i5, .reg .l => .res5L
  | .i5, .indHl => .res5IndHl
  | .i5, .reg .a => .res5A
  | .i6, .reg .b => .res6B
  | .i6, .reg .c => .res6C
  | .i6, .reg .d => .res6D
  | .i6, .reg .e => .res6E
  | .i6, .reg .h => .res6H
  | .i6, .reg .l => .res6L
  | .i6, .indHl => .res6IndHl
  | .i6, .reg .a => .res6A
  | .i7, .reg .b => .res7B
  | .i7, .reg .c => .res7C
  | .i7, .reg .d => .res7D
  | .i7, .reg .e => .res7E
  | .i7, .reg .h => .res7H
  | .i7, .reg .l => .res7L
  | .i7, .indHl => .res7IndHl
  | .i7, .reg .a => .res7A

/-- `SET b,s` (R245, R246). -/
def Instr.setOf : Idx3 → Opnd → Instr
  | .i0, .reg .b => .set0B
  | .i0, .reg .c => .set0C
  | .i0, .reg .d => .set0D
  | .i0, .reg .e => .set0E
  | .i0, .reg .h => .set0H
  | .i0, .reg .l => .set0L
  | .i0, .indHl => .set0IndHl
  | .i0, .reg .a => .set0A
  | .i1, .reg .b => .set1B
  | .i1, .reg .c => .set1C
  | .i1, .reg .d => .set1D
  | .i1, .reg .e => .set1E
  | .i1, .reg .h => .set1H
  | .i1, .reg .l => .set1L
  | .i1, .indHl => .set1IndHl
  | .i1, .reg .a => .set1A
  | .i2, .reg .b => .set2B
  | .i2, .reg .c => .set2C
  | .i2, .reg .d => .set2D
  | .i2, .reg .e => .set2E
  | .i2, .reg .h => .set2H
  | .i2, .reg .l => .set2L
  | .i2, .indHl => .set2IndHl
  | .i2, .reg .a => .set2A
  | .i3, .reg .b => .set3B
  | .i3, .reg .c => .set3C
  | .i3, .reg .d => .set3D
  | .i3, .reg .e => .set3E
  | .i3, .reg .h => .set3H
  | .i3, .reg .l => .set3L
  | .i3, .indHl => .set3IndHl
  | .i3, .reg .a => .set3A
  | .i4, .reg .b => .set4B
  | .i4, .reg .c => .set4C
  | .i4, .reg .d => .set4D
  | .i4, .reg .e => .set4E
  | .i4, .reg .h => .set4H
  | .i4, .reg .l => .set4L
  | .i4, .indHl => .set4IndHl
  | .i4, .reg .a => .set4A
  | .i5, .reg .b => .set5B
  | .i5, .reg .c => .set5C
  | .i5, .reg .d => .set5D
  | .i5, .reg .e => .set5E
  | .i5, .reg .h => .set5H
  | .i5, .reg .l => .set5L
  | .i5, .indHl => .set5IndHl
  | .i5, .reg .a => .set5A
  | .i6, .reg .b => .set6B
  | .i6, .reg .c => .set6C
  | .i6, .reg .d => .set6D
  | .i6, .reg .e => .set6E
  | .i6, .reg .h => .set6H
  | .i6, .reg .l => .set6L
  | .i6, .indHl => .set6IndHl
  | .i6, .reg .a => .set6A
  | .i7, .reg .b => .set7B
  | .i7, .reg .c => .set7C
  | .i7, .reg .d => .set7D
  | .i7, .reg .e => .set7E
  | .i7, .reg .h => .set7H
  | .i7, .reg .l => .set7L
  | .i7, .indHl => .set7IndHl
  | .i7, .reg .a => .set7A

/-- The instruction of a pattern line: the inverse of `Instr.form`. -/
def Form.toInstr : Form → Instr
  | .nop => .nop
  | .ldPairNn x nn => Instr.ldPairNnOf x nn
  | .ldIndA x => Instr.ldIndAOf x
  | .incPair x => Instr.incPairOf x
  | .inc x => Instr.incOf x
  | .dec x => Instr.decOf x
  | .ldRN x n => Instr.ldRNOf x n
  | .rlca => .rlca
  | .ldNnSp nn => .ldIndNnSp nn
  | .addHl x => Instr.addHlOf x
  | .ldAInd x => Instr.ldAIndOf x
  | .decPair x => Instr.decPairOf x
  | .rrca => .rrca
  | .stop n => .stop n
  | .rla => .rla
  | .jr e => .jrE e
  | .rra => .rra
  | .jrCc x e => Instr.jrCcOf x e
  | .daa => .daa
  | .cpl => .cpl
  | .ldIndN n => .ldIndHlN n
  | .scf => .scf
  | .ccf => .ccf
  | .ldRR x y => Instr.ldRROf x y
  | .ldRInd x => Instr.ldRIndOf x
  | .ldIndR x => Instr.ldIndROf x
  | .halt => .halt
  | .alu x y => Instr.aluOf x y
  | .retCc x => Instr.retCcOf x
  | .pop x => Instr.popOf x
  | .jpCc x nn => Instr.jpCcOf x nn
  | .jpNn nn => .jpNn nn
  | .callCc x nn => Instr.callCcOf x nn
  | .push x => Instr.pushOf x
  | .aluN x n => Instr.aluNOf x n
  | .rst x => Instr.rstOf x
  | .ret => .ret
  | .prefixCb => .prefixCb
  | .callNn nn => .callNn nn
  | .illegal x => Instr.illegalOf x
  | .reti => .reti
  | .ldhNA n => .ldhIndNA n
  | .ldhCA => .ldhIndCA
  | .addSpE e => .addSpE e
  | .jpHl => .jpHl
  | .ldNnA nn => .ldIndNnA nn
  | .ldhAN n => .ldhAIndN n
  | .ldhAC => .ldhAIndC
  | .di => .di
  | .ldHlSpE e => .ldHlSpE e
  | .ldSpHl => .ldSpHl
  | .ldANn nn => .ldAIndNn nn
  | .ei => .ei
  | .rot x y => Instr.rotOf x y
  | .bit x y => Instr.bitOf x y
  | .res x y => Instr.resOf x y
  | .set x y => Instr.setOf x y

/-! ### The encoder -/

/-- The code of a register in a field `r` or `s` (R103). -/
def Reg8.code : Reg8 → Nat
  | .b => 0
  | .c => 1
  | .d => 2
  | .e => 3
  | .h => 4
  | .l => 5
  | .a => 7

/-- The code of an 8-bit operand; `(HL)` is 6 (R103). -/
def Opnd.code : Opnd → Nat
  | .reg r => r.code
  | .indHl => 6

/-- The code of `rr` (R104). -/
def Pair.code : Pair → Nat
  | .bc => 0
  | .de => 1
  | .hl => 2
  | .sp => 3

/-- The code of `qq` (R104). -/
def StackPair.code : StackPair → Nat
  | .bc => 0
  | .de => 1
  | .hl => 2
  | .af => 3

/-- The code of `op[5:4]` in the accumulator-indirect loads (R108 pattern lines). -/
def Indirect.code : Indirect → Nat
  | .bc => 0
  | .de => 1
  | .hlInc => 2
  | .hlDec => 3

/-- The code of `cc` (R105). -/
def Cond.code : Cond → Nat
  | .nz => 0
  | .z => 1
  | .nc => 2
  | .c => 3

/-- The code of a 3-bit index (R106). -/
def Idx3.code : Idx3 → Nat
  | .i0 => 0
  | .i1 => 1
  | .i2 => 2
  | .i3 => 3
  | .i4 => 4
  | .i5 => 5
  | .i6 => 6
  | .i7 => 7

/-- The code `k = op[5:3]` of an accumulator operation (42_alu8 section 2). -/
def AluOp.code : AluOp → Nat
  | .add => 0
  | .adc => 1
  | .sub => 2
  | .sbc => 3
  | .and => 4
  | .xor => 5
  | .or => 6
  | .cp => 7

/-- The code `op2[5:3]` of a shift function (R224). -/
def RotOp.code : RotOp → Nat
  | .rlc => 0
  | .rrc => 1
  | .rl => 2
  | .rr => 3
  | .sla => 4
  | .sra => 5
  | .swap => 6
  | .srl => 7

/-- The opcode byte of an illegal row (R110). -/
def IllegalOp.byte : IllegalOp → Byte
  | .xD3 => 0xD3
  | .xDB => 0xDB
  | .xDD => 0xDD
  | .xE3 => 0xE3
  | .xE4 => 0xE4
  | .xEB => 0xEB
  | .xEC => 0xEC
  | .xED => 0xED
  | .xF4 => 0xF4
  | .xFC => 0xFC
  | .xFD => 0xFD

/-- One opcode byte `xx yyy zzz` from its three fields (R102). -/
def opcodeByte (x y z : Nat) : Byte := BitVec.ofNat 8 (64 * x + 8 * y + z)

/-- An extended instruction: the prefix and the extended opcode (R100 `CB_OP`, R109). -/
def extendedBytes (x y z : Nat) : List Byte := [Config.prefixByte, opcodeByte x y z]

/-- An opcode and the two bytes of a 16-bit immediate, low byte first (R100 `OP_NN`, R107). -/
def withWord (op : Byte) (nn : Word) : List Byte := [op, nn.loByte, nn.hiByte]

/-- The bytes of a pattern line (R100, R102 to R109), first byte first. -/
def Form.encode : Form → List Byte
  | .nop => [0x00]
  | .ldNnSp nn => withWord 0x08 nn
  | .stop n => [0x10, n]
  | .jr e => [0x18, e]
  | .jrCc cc e => [opcodeByte 0 (4 + cc.code) 0, e]
  | .ldPairNn rr nn => withWord (opcodeByte 0 (2 * rr.code) 1) nn
  | .addHl rr => [opcodeByte 0 (2 * rr.code + 1) 1]
  | .ldIndA m => [opcodeByte 0 (2 * m.code) 2]
  | .ldAInd m => [opcodeByte 0 (2 * m.code + 1) 2]
  | .incPair rr => [opcodeByte 0 (2 * rr.code) 3]
  | .decPair rr => [opcodeByte 0 (2 * rr.code + 1) 3]
  | .inc o => [opcodeByte 0 o.code 4]
  | .dec o => [opcodeByte 0 o.code 5]
  | .ldRN r n => [opcodeByte 0 r.code 6, n]
  | .ldIndN n => [0x36, n]
  | .rlca => [0x07]
  | .rrca => [0x0F]
  | .rla => [0x17]
  | .rra => [0x1F]
  | .daa => [0x27]
  | .cpl => [0x2F]
  | .scf => [0x37]
  | .ccf => [0x3F]
  | .ldRR r s => [opcodeByte 1 r.code s.code]
  | .ldRInd r => [opcodeByte 1 r.code 6]
  | .ldIndR s => [opcodeByte 1 6 s.code]
  | .halt => [0x76]
  | .alu op o => [opcodeByte 2 op.code o.code]
  | .aluN op n => [opcodeByte 3 op.code 6, n]
  | .retCc cc => [opcodeByte 3 cc.code 0]
  | .ldhNA n => [0xE0, n]
  | .ldhAN n => [0xF0, n]
  | .addSpE e => [0xE8, e]
  | .ldHlSpE e => [0xF8, e]
  | .pop qq => [opcodeByte 3 (2 * qq.code) 1]
  | .push qq => [opcodeByte 3 (2 * qq.code) 5]
  | .ret => [0xC9]
  | .reti => [0xD9]
  | .jpHl => [0xE9]
  | .ldSpHl => [0xF9]
  | .jpCc cc nn => withWord (opcodeByte 3 cc.code 2) nn
  | .ldhCA => [0xE2]
  | .ldhAC => [0xF2]
  | .ldNnA nn => withWord 0xEA nn
  | .ldANn nn => withWord 0xFA nn
  | .jpNn nn => withWord 0xC3 nn
  | .prefixCb => [Config.prefixByte]
  | .di => [0xF3]
  | .ei => [0xFB]
  | .callCc cc nn => withWord (opcodeByte 3 cc.code 4) nn
  | .callNn nn => withWord 0xCD nn
  | .rst t => [opcodeByte 3 t.code 7]
  | .illegal x => [x.byte]
  | .rot op o => extendedBytes 0 op.code o.code
  | .bit b o => extendedBytes 1 b.code o.code
  | .res b o => extendedBytes 2 b.code o.code
  | .set b o => extendedBytes 3 b.code o.code

/-- The bytes of an instruction, first byte first. -/
def encode (i : Instr) : List Byte := i.form.encode

end Sys2Proof
end

