-- ==== Sys2Proof/Machine/Fetch.lean ====
section
/-! DEFINITION. Fetching an instruction: the opcode fetch with the halt bug (R291), the operand fetches of the slot
(R101, R276), and placing an instruction's bytes where the next fetch reads them (for `State.withFetchWord`). -/

namespace Sys2Proof.Machine

/-- `FetchOpcode()`: with `haltBug` set PC is not advanced and the bit is cleared (R291). -/
def State.fetchOpcode (s : State) : Byte × State :=
  (s.busRead s.pc, if s.haltBug then { s with haltBug := false } else { s with pc := s.pc + 1 })

/-- Fetch and decode: the opcode, then the operand bytes of its slot, or the extended opcode after the prefix. PC is then
the address of the next instruction (R101, R276). Operand bytes are fetched before the meaning runs, as R12 orders them. -/
def State.fetchInstr (s : State) : Instr × State :=
  let op := s.fetchOpcode
  match primarySlot op.1 with
  | .op i => (i, op.2)
  | .opN f =>
    let n := op.2.fetch8
    (f n.1, n.2)
  | .opNN f =>
    let nn := op.2.fetch16
    (f nn.1, nn.2)
  | .cb =>
    let op2 := op.2.fetch8
    (extendedInstr op2.1, op2.2)

/-- Places a byte in the store behind an address, the ROM image included, whatever a bus write there would do. Where no
store answers a read (the unusable range, external RAM that cannot answer) nothing is placed. -/
def Bus.poke (u : Bus) (a : Word) (v : Byte) : Bus :=
  match regionOf a with
  | .romFixed => { u with cart := { u.cart with rom := Memory.write u.cart.rom a.toNat v } }
  | .romSwitch => { u with cart := { u.cart with rom := Memory.write u.cart.rom (u.romOffset a) v } }
  | .vram => u.write a v
  | .xram => u.write a v
  | .wram => u.write a v
  | .echo => u.write a v
  | .oam => u.write a v
  | .unusable => u
  | .io => u.write a v
  | .hram => u.write a v
  | .ie => u.write a v

/-- Places bytes at an address and on, modulo 0x10000. -/
def Bus.pokeBytes (u : Bus) (a : Word) : List Byte → Bus
  | [] => u
  | v :: vs => (u.poke a v).pokeBytes (a + 1) vs

end Sys2Proof.Machine
end

