-- ==== Sys2Proof/Machine/Engine.lean ====
section
/-! DEFINITION. The step routine of the engine (60_exceptions R290 to R298): idle tick, interrupt dispatch, or one
instruction with the delayed enable around it. -/

namespace Sys2Proof.Machine

/-- The end of a step that executed an instruction: `arm` is `imePending` before it; if it was set and still is, IME
becomes 1 (R292). -/
def State.finishEnable (arm : Bool) (t : State) : State :=
  if arm && t.imePending then { t with ime := true, imePending := false } else t

/-- `finishEnable` on an instruction's outcome. -/
def finishStep (arm : Bool) : Result → Result
  | .next t => .next (t.finishEnable arm)
  | .fault r => .fault r
  | .refused r => .refused r

/-- One instruction: fetch, execute, delayed enable (R290, R291, R292). -/
def State.runInstr (s : State) : Result :=
  let i := s.fetchInstr
  finishStep s.imePending (exec i.1 i.2)

/-- A step in Running mode: the dispatch of the lowest pending source when IME is set, else one instruction (R290,
R297, R298). -/
def State.serve (s : State) : Result :=
  if s.ime = true ∧ s.pending ≠ 0 then done Config.cyclesDispatch (s.dispatch (lowestSource s.pending))
  else s.runInstr

/-- `step(wake)` (R290): the Locked, Stopped and Halted ticks and wake-ups (R293, R294, R295), then `serve`. -/
def State.engineStep (s : State) (wake : Bool) : Result :=
  match s.mode with
  | .locked => done Config.cyclesTick s
  | .stopped => if wake then { s with mode := .running }.serve else done Config.cyclesTick s
  | .halted => if s.pending = 0 then done Config.cyclesTick s else { s with mode := .running }.serve
  | .running => s.serve

end Sys2Proof.Machine
end

