-- ==== Sys2Proof/Machine/Step.lean ====
section
/-! DEFINITION. One step of the machine: what the outside did since the last step, then the engine's step (R6, R290). -/

namespace Sys2Proof.Machine

/-- One step: the first entry of `inputs` is taken, then the engine steps with its wake bit (R6, R290). -/
def step (s : State) : Host.Outcome State Fault Refusal := s.takeInput.2.engineStep s.takeInput.1

/-- The state with an instruction's bytes, zeros above `nbits`, stored where the next step fetches: at PC and on, in the
store behind the address. From `State.reset` that is the ROM image, so it stands for loading the cartridge (log entry 3). -/
def State.withFetchWord (s : State) (nbits w : Nat) : State :=
  { s with bus := s.bus.pokeBytes s.pc (tableBytes nbits w) }

end Sys2Proof.Machine
end

