-- ==== Sys2Proof/Machine/Run.lean ====
section
/-! DEFINITION. Runs of the machine (70_reset_and_hazards R343): the parameter `END_OF_RUN` of R9, a run that takes it as
an argument, and the value of it that R343 recommends. The machine itself never ends a run. -/

namespace Sys2Proof.Machine

/-- The parameter `END_OF_RUN` (R9, R343): whether a run ends with a step, asked on the wake bit of the step, the state its
engine step began in and the state it left. Left open by the spec (D37), an argument of `runUntil`; log entry 11. -/
abbrev EndOfRun := Bool → State → State → Bool

/-- A run: steps until one ends it by `ends`, or until the host stops calling `step` after `n` of them (R343). The answer
says whether `ends` ended it, and the state it stands in. -/
def runUntil (ends : EndOfRun) : Nat → State → Host.Outcome (Bool × State) Fault Refusal
  | 0, s => .next (false, s)
  | n + 1, s =>
    match step s with
    | .next t => if ends s.takeInput.1 s.takeInput.2 t then .next (true, t) else runUntil ends n t
    | .fault r => .fault r
    | .refused r => .refused r

/-- No interrupt can be dispatched: IME is 0, or IE enables no source (R343 c). -/
def State.nothingDispatchable (s : State) : Bool := !s.ime || (s.bus.ie &&& 0x1F) == 0

/-- The engine step from this state with this wake bit executes an instruction (R290). -/
def State.executes (s : State) (wake : Bool) : Bool :=
  match s.mode with
  | .running => !(s.ime && s.pending != 0)
  | .halted => s.pending != 0 && !s.ime
  | .stopped => wake && !(s.ime && s.pending != 0)
  | .locked => false

/-- The value of `END_OF_RUN` that R343 recommends for test programs: Locked; or Halted for good; or the step executed a
`JR` to itself with nothing dispatchable. The recommendation is the spec's own choice (D37), log entry 11. -/
def endOfRun (wake : Bool) (before after : State) : Bool :=
  after.mode == .locked ||
  (after.mode == .halted && !after.ime && (after.bus.ie &&& 0x1F) == 0) ||
  (before.executes wake && before.fetchInstr.1 == .jrE 0xFE && after.nothingDispatchable)

end Sys2Proof.Machine
end

