-- ==== Sys2Proof/Safety.lean ====
section
/-! DEFINITION. The terms in which claims about the machine are made: the invariant of its states, what an instruction
may write (R34) and where it stores, and when two addresses are one byte. -/

namespace Sys2Proof.Machine

/-! ### The invariant -/

/-- A store of `size` bytes in canonical form with no entry outside it (R30). -/
def Memory.ok (size : Nat) (m : Memory) : Bool := Memory.wf m && Memory.within size m

/-- The controller's registers hold values their kind can hold: MBC1 and MBC3 never hold ROM bank 0 or a bank beyond
the cartridge, and a register a kind does not use keeps its reset value (R31, R76 to R79). -/
def Mbc.ok (p : Cartridge) (m : Mbc) : Bool :=
  match p.kind with
  | .romOnly => m == Mbc.reset
  | .mbc1 =>
    decide (1 ≤ m.romLow.toNat) && decide (m.romLow.toNat ≤ 0x1F) && decide (m.romLow.toNat < p.bankCount) &&
      decide (m.aux.toNat ≤ 3) && m.romHigh == 0
  | .mbc3 =>
    decide (1 ≤ m.romLow.toNat) && decide (m.romLow.toNat ≤ 0x7F) && decide (m.romLow.toNat < p.bankCount) &&
      decide (m.aux.toNat ≤ 3) && m.romHigh == 0 && m.bankMode == 0
  | .mbc5 => m.bankMode == 0

/-- The cartridge's ROM image is canonical and no longer than its banks (R10). -/
def Cartridge.ok (p : Cartridge) : Bool := Memory.ok (p.bankCount * Config.romBankSize) p.rom

/-- Every store is canonical and inside its size (R30), the controller's registers are in range (R31), and the image fits
its banks (R10). -/
abbrev Bus.ok (u : Bus) : Prop :=
  Memory.ok 0x2000 u.vram = true ∧ Memory.ok 0x2000 u.wram = true ∧ Memory.ok 0xA0 u.oam = true ∧
  Memory.ok 0x80 u.io = true ∧ Memory.ok 0x7F u.hram = true ∧
  Memory.ok (u.cart.ramBanks.val * Config.ramBankSize) u.xram = true ∧
  Mbc.ok u.cart u.mbc = true ∧ Cartridge.ok u.cart = true

/-- What every reachable state satisfies: F's low nibble is 0 (R22), the bus is in order, and the halt bug is armed only
while Running (R271, R291). -/
abbrev State.Inv (s : State) : Prop :=
  s.f &&& 0x0F = 0 ∧ s.bus.ok ∧ (s.haltBug = true → s.mode = .running)

/-! ### What an instruction may write (R34) -/

/-- The pieces of register state of R34, PC apart. -/
inductive Piece where
  | reg (r : Reg8)
  | flagZ
  | flagN
  | flagH
  | flagC
  | sp
  | ime
  | mode
  | imePending
  | haltBug
  deriving DecidableEq, Repr

/-- The piece holds the same in both states. -/
def Piece.same (p : Piece) (s t : State) : Prop :=
  match p with
  | .reg r => t.reg r = s.reg r
  | .flagZ => t.flagZ = s.flagZ
  | .flagN => t.flagN = s.flagN
  | .flagH => t.flagH = s.flagH
  | .flagC => t.flagC = s.flagC
  | .sp => t.sp = s.sp
  | .ime => t.ime = s.ime
  | .mode => t.mode = s.mode
  | .imePending => t.imePending = s.imePending
  | .haltBug => t.haltBug = s.haltBug

end Sys2Proof.Machine

namespace Sys2Proof

open Machine

/-- The register an operand is, if it is one. -/
def Opnd.piece : Opnd → List Piece
  | .reg r => [.reg r]
  | .indHl => []

/-- The halves of a pair, or SP. -/
def Pair.pieces : Pair → List Piece
  | .bc => [.reg .b, .reg .c]
  | .de => [.reg .d, .reg .e]
  | .hl => [.reg .h, .reg .l]
  | .sp => [.sp]

/-- The halves of a stack pair; F as its four flags. -/
def StackPair.pieces : StackPair → List Piece
  | .bc => [.reg .b, .reg .c]
  | .de => [.reg .d, .reg .e]
  | .hl => [.reg .h, .reg .l]
  | .af => [.reg .a, .flagZ, .flagN, .flagH, .flagC]

/-- The halves of HL where the addressing mode steps it. -/
def Indirect.pieces : Indirect → List Piece
  | .bc => []
  | .de => []
  | .hlInc => [.reg .h, .reg .l]
  | .hlDec => [.reg .h, .reg .l]

/-- The pieces an instruction may write, line by line from the table of R34 and the instruction rules it sums up. The bare
prefix is no instruction (R276) and has no line. -/
def Form.writes : Form → List Piece
  | .nop => []
  | .ldNnSp _ => []
  | .stop _ => [.mode]
  | .jr _ => []
  | .jrCc _ _ => []
  | .ldPairNn rr _ => rr.pieces
  | .addHl _ => [.reg .h, .reg .l, .flagN, .flagH, .flagC]
  | .ldIndA m => m.pieces
  | .ldAInd m => .reg .a :: m.pieces
  | .incPair rr => rr.pieces
  | .decPair rr => rr.pieces
  | .inc o => o.piece ++ [.flagZ, .flagN, .flagH]
  | .dec o => o.piece ++ [.flagZ, .flagN, .flagH]
  | .ldRN r _ => [.reg r]
  | .ldIndN _ => []
  | .rlca => [.reg .a, .flagZ, .flagN, .flagH, .flagC]
  | .rrca => [.reg .a, .flagZ, .flagN, .flagH, .flagC]
  | .rla => [.reg .a, .flagZ, .flagN, .flagH, .flagC]
  | .rra => [.reg .a, .flagZ, .flagN, .flagH, .flagC]
  | .daa => [.reg .a, .flagZ, .flagH, .flagC]
  | .cpl => [.reg .a, .flagN, .flagH]
  | .scf => [.flagN, .flagH, .flagC]
  | .ccf => [.flagN, .flagH, .flagC]
  | .ldRR r _ => [.reg r]
  | .ldRInd r => [.reg r]
  | .ldIndR _ => []
  | .halt => [.mode, .haltBug]
  | .alu op _ => (if op = .cp then [] else [.reg .a]) ++ [.flagZ, .flagN, .flagH, .flagC]
  | .aluN op _ => (if op = .cp then [] else [.reg .a]) ++ [.flagZ, .flagN, .flagH, .flagC]
  | .retCc _ => [.sp]
  | .ldhNA _ => []
  | .ldhAN _ => [.reg .a]
  | .addSpE _ => [.sp, .flagZ, .flagN, .flagH, .flagC]
  | .ldHlSpE _ => [.reg .h, .reg .l, .flagZ, .flagN, .flagH, .flagC]
  | .pop qq => .sp :: qq.pieces
  | .push _ => [.sp]
  | .ret => [.sp]
  | .reti => [.sp, .ime, .imePending]
  | .jpHl => []
  | .ldSpHl => [.sp]
  | .jpCc _ _ => []
  | .ldhCA => []
  | .ldhAC => [.reg .a]
  | .ldNnA _ => []
  | .ldANn _ => [.reg .a]
  | .jpNn _ => []
  | .prefixCb => []
  | .di => [.ime, .imePending]
  | .ei => [.imePending]
  | .callCc _ _ => [.sp]
  | .callNn _ => [.sp]
  | .rst _ => [.sp]
  | .illegal _ => [.mode]
  | .rot _ o => o.piece ++ [.flagZ, .flagN, .flagH, .flagC]
  | .bit _ _ => [.flagZ, .flagN, .flagH]
  | .res _ o => o.piece
  | .set _ o => o.piece

/-- The instructions that write PC themselves (R34, R251 to R261). The others leave it where the fetch put it. The bare
prefix is no instruction (R276) and has no line. -/
def Form.jumps : Form → Bool
  | .nop => false
  | .ldNnSp _ => false
  | .stop _ => false
  | .jr _ => true
  | .jrCc _ _ => true
  | .ldPairNn _ _ => false
  | .addHl _ => false
  | .ldIndA _ => false
  | .ldAInd _ => false
  | .incPair _ => false
  | .decPair _ => false
  | .inc _ => false
  | .dec _ => false
  | .ldRN _ _ => false
  | .ldIndN _ => false
  | .rlca => false
  | .rrca => false
  | .rla => false
  | .rra => false
  | .daa => false
  | .cpl => false
  | .scf => false
  | .ccf => false
  | .ldRR _ _ => false
  | .ldRInd _ => false
  | .ldIndR _ => false
  | .halt => false
  | .alu _ _ => false
  | .aluN _ _ => false
  | .retCc _ => true
  | .ldhNA _ => false
  | .ldhAN _ => false
  | .addSpE _ => false
  | .ldHlSpE _ => false
  | .pop _ => false
  | .push _ => false
  | .ret => true
  | .reti => true
  | .jpHl => true
  | .ldSpHl => false
  | .jpCc _ _ => true
  | .ldhCA => false
  | .ldhAC => false
  | .ldNnA _ => false
  | .ldANn _ => false
  | .jpNn _ => true
  | .prefixCb => false
  | .di => false
  | .ei => false
  | .callCc _ _ => true
  | .callNn _ => true
  | .rst _ => true
  | .illegal _ => false
  | .rot _ _ => false
  | .bit _ _ => false
  | .res _ _ => false
  | .set _ _ => false

/-! ### Where an instruction stores -/

/-- HL where the operand is the byte at HL. -/
def Opnd.stores (o : Opnd) (s : State) : List Word :=
  match o with
  | .reg _ => []
  | .indHl => [s.hl]

/-- The two bytes of a push (R150). -/
def Machine.State.pushAddrs (s : State) : List Word := [s.sp - 1, s.sp - 2]

/-- The addresses an instruction writes to, in order, in the state its meaning starts from (R68). The bare prefix is no
instruction (R276) and has no line. -/
def Form.stores (f : Form) (s : State) : List Word :=
  match f with
  | .nop => []
  | .ldNnSp nn => [nn, nn + 1]
  | .stop _ => []
  | .jr _ => []
  | .jrCc _ _ => []
  | .ldPairNn _ _ => []
  | .addHl _ => []
  | .ldIndA m => [s.indirectAddr m]
  | .ldAInd _ => []
  | .incPair _ => []
  | .decPair _ => []
  | .inc o => o.stores s
  | .dec o => o.stores s
  | .ldRN _ _ => []
  | .ldIndN _ => [s.hl]
  | .rlca => []
  | .rrca => []
  | .rla => []
  | .rra => []
  | .daa => []
  | .cpl => []
  | .scf => []
  | .ccf => []
  | .ldRR _ _ => []
  | .ldRInd _ => []
  | .ldIndR _ => [s.hl]
  | .halt => []
  | .alu _ _ => []
  | .aluN _ _ => []
  | .retCc _ => []
  | .ldhNA n => [n.highPage]
  | .ldhAN _ => []
  | .addSpE _ => []
  | .ldHlSpE _ => []
  | .pop _ => []
  | .push _ => s.pushAddrs
  | .ret => []
  | .reti => []
  | .jpHl => []
  | .ldSpHl => []
  | .jpCc _ _ => []
  | .ldhCA => [s.c.highPage]
  | .ldhAC => []
  | .ldNnA nn => [nn]
  | .ldANn _ => []
  | .jpNn _ => []
  | .prefixCb => []
  | .di => []
  | .ei => []
  | .callCc cc _ => if s.cond cc then s.pushAddrs else []
  | .callNn _ => s.pushAddrs
  | .rst _ => s.pushAddrs
  | .illegal _ => []
  | .rot _ o => o.stores s
  | .bit _ _ => []
  | .res _ o => o.stores s
  | .set _ o => o.stores s

end Sys2Proof

namespace Sys2Proof.Machine

/-- The address that names the byte: an echo address is the work RAM address 0x2000 below (R59). -/
def canonicalAddr (a : Word) : Word := if regionOf a = .echo then a - 0x2000 else a

/-- The two addresses reach the same byte, whatever the state (R59). -/
abbrev sameByte (a b : Word) : Prop := canonicalAddr a = canonicalAddr b

/-- A write there is a control write to the bank controller, not a store (R56, R327). -/
abbrev isControl (a : Word) : Prop := a.toNat ≤ 0x7FFF

/-- The address reaches a byte that keeps what is written to it: not a control write, not the unusable range, not
external RAM that cannot answer (R53, R56, R62, R80). -/
abbrev Bus.plainByte (u : Bus) (a : Word) : Prop :=
  ¬ isControl a ∧ regionOf a ≠ .unusable ∧ (regionOf a = .xram → u.ramOk = true)

end Sys2Proof.Machine
end

