-- ==== Sys2Proof/Certificates/Slice0/Obligations.lean ====
section
/-! DEFINITION. The statements for the provers, each a `Prop`, from the numbered rules of spec/: encoding, the step, reset and
the outside, the bus and the bank controller, frames, and the result of every instruction. -/

open Sys2Proof Sys2Proof.Machine

/-! ### Encoding -/

/-- R100, R102 to R109: the decoder reads back every instruction from its bytes, with every operand at every value, and
leaves the bytes behind them alone. -/
def Obligations.DecodeInvertsEncode : Prop :=
  ∀ (i : Instr) (rest : List Byte), i.wellFormed = true → decode (encode i ++ rest) = .ok (i, rest)

/-- R108, R109, R116: each encoding has one meaning. What the decoder reads is a well-formed instruction, and the bytes it
took are that instruction's. -/
def Obligations.EncodeInvertsDecode : Prop :=
  ∀ (bytes rest : List Byte) (i : Instr), decode bytes = .ok (i, rest) →
    i.wellFormed = true ∧ encode i ++ rest = bytes

/-- R100, R112: an instruction is 1, 2 or 3 bytes long, two instructions with one first byte have one length, and after the
prefix it is 2. -/
def Obligations.LengthFollowsFromFirstByte : Prop :=
  (∀ i : Instr, i.wellFormed = true → 1 ≤ (encode i).length ∧ (encode i).length ≤ 3) ∧
  (∀ i j : Instr, i.wellFormed = true → j.wellFormed = true → (encode i).head? = (encode j).head? →
    (encode i).length = (encode j).length) ∧
  (∀ i : Instr, i.wellFormed = true → (encode i).head? = some 0xCB → (encode i).length = 2)

/-- Words the spec's own examples write out (R121, R122, R125, R130, R152, R153, R170, R229, R241, R254, R256, R261, R272,
R275, R276) decode to the instructions they stand for. -/
def Obligations.ExampleWordsDecode : Prop :=
  decode [0x47] = .ok (.ldBA, []) ∧
  decode [0x3E, 0x42] = .ok (.ldAN 0x42, []) ∧
  decode [0x36, 0x7F] = .ok (.ldIndHlN 0x7F, []) ∧
  decode [0xFA, 0x34, 0xC2] = .ok (.ldAIndNn 0xC234, []) ∧
  decode [0x21, 0x34, 0x12] = .ok (.ldHlNn 0x1234, []) ∧
  decode [0x08, 0x00, 0xC1] = .ok (.ldIndNnSp 0xC100, []) ∧
  decode [0xC6, 0xFF] = .ok (.addAN 0xFF, []) ∧
  decode [0x09] = .ok (.addHlBc, []) ∧
  decode [0xCB, 0x15] = .ok (.rlL, []) ∧
  decode [0xCB, 0x7F] = .ok (.bit7A, []) ∧
  decode [0xCB, 0xCB] = .ok (.set1E, []) ∧
  decode [0x18, 0xFB] = .ok (.jrE 0xFB, []) ∧
  decode [0xCD, 0x34, 0x12] = .ok (.callNn 0x1234, []) ∧
  decode [0xEF] = .ok (.rst28h, []) ∧
  decode [0x10, 0x00] = .ok (.stop 0x00, []) ∧
  decode [0xDD] = .ok (.illegalDD, [])

/-- R109: the extended table by its fields `xx yyy sss`; the 256 slots are these and none is illegal. -/
def Obligations.ExtendedTableByFields : Prop :=
  ∀ (k : RotOp) (b : Idx3) (o : Opnd) (rest : List Byte),
    decode (0xCB :: BitVec.ofNat 8 (8 * k.code + o.code) :: rest) = .ok (Instr.rotOf k o, rest) ∧
    decode (0xCB :: BitVec.ofNat 8 (0x40 + 8 * b.code + o.code) :: rest) = .ok (Instr.bitOf b o, rest) ∧
    decode (0xCB :: BitVec.ofNat 8 (0x80 + 8 * b.code + o.code) :: rest) = .ok (Instr.resOf b o, rest) ∧
    decode (0xCB :: BitVec.ofNat 8 (0xC0 + 8 * b.code + o.code) :: rest) = .ok (Instr.setOf b o, rest)

/-- R110: any three bytes begin with an instruction, and it is an illegal opcode's exactly for eleven first bytes. -/
def Obligations.ElevenOpcodesAreIllegal : Prop :=
  ∀ op b1 b2 : Byte,
    (∃ (i : Instr) (rest : List Byte), decode [op, b1, b2] = .ok (i, rest)) ∧
    ∀ (i : Instr) (rest : List Byte), decode [op, b1, b2] = .ok (i, rest) →
      ((∃ x : IllegalOp, i = Instr.illegalOf x) ↔
        op ∈ ([0xD3, 0xDB, 0xDD, 0xE3, 0xE4, 0xEB, 0xEC, 0xED, 0xF4, 0xFC, 0xFD] : List Byte))

/-! ### The step -/

/-- R23, R101, R290: in Running mode with no dispatch and no halt bug, a step runs `exec` on the instruction the three bytes
at PC decode to, with PC moved past that instruction's bytes modulo 0x10000, and the delayed enable at the end. The
state is what the outside left (`takeInput`). -/
def Obligations.StepRunsDecodedInstruction : Prop :=
  ∀ (s0 : State) (i : Instr) (rest : List Byte),
    let s := s0.takeInput.2
    s.mode = .running → ¬ (s.ime = true ∧ s.pending ≠ 0) → s.haltBug = false →
    decode [s.busRead s.pc, s.busRead (s.pc + 1), s.busRead (s.pc + 2)] = .ok (i, rest) →
    step s0 =
      finishStep s.imePending (exec i { s with pc := s.pc + BitVec.ofNat 16 (encode i).length })

/-- R291, R326 (the bit itself is the spec's choice, D14): with the halt bug armed the opcode fetch leaves PC, so the byte
at PC is the opcode and the first operand byte too; the bit is cleared. -/
def Obligations.HaltBugReadsTheByteTwice : Prop :=
  ∀ (s0 : State) (i : Instr) (rest : List Byte),
    let s := s0.takeInput.2
    s.mode = .running → ¬ (s.ime = true ∧ s.pending ≠ 0) → s.haltBug = true →
    decode [s.busRead s.pc, s.busRead s.pc, s.busRead (s.pc + 1)] = .ok (i, rest) →
    step s0 =
      finishStep s.imePending
        (exec i { s with haltBug := false, pc := s.pc + BitVec.ofNat 16 ((encode i).length - 1) })

/-- R292, R325 (the delay is the spec's choice, D13), for every instruction: an armed enable sets IME at the end of the
step unless the instruction is DI or RETI; EI arms and changes IME only if it was armed before; nothing else does. -/
def Obligations.DelayedEnable : Prop :=
  (∀ (i : Instr) (s t : State), i.wellFormed = true → i ≠ .di → i ≠ .reti → s.imePending = true →
    finishStep true (exec i s) = .next t → t.ime = true ∧ t.imePending = false) ∧
  (∀ (i : Instr) (s t : State), i.wellFormed = true → i ≠ .di → i ≠ .reti → i ≠ .ei → s.imePending = false →
    finishStep false (exec i s) = .next t → t.ime = s.ime ∧ t.imePending = false) ∧
  (∀ s t : State, s.imePending = false → finishStep false (exec .ei s) = .next t →
    t.ime = s.ime ∧ t.imePending = true) ∧
  (∀ s t : State, finishStep s.imePending (exec .di s) = .next t → t.ime = false ∧ t.imePending = false) ∧
  (∀ s t : State, finishStep s.imePending (exec .reti s) = .next t → t.ime = true ∧ t.imePending = false)

/-- R296 to R298 (order of the pushes D18, halt-bug correction D15, cycles D9): with IME set and something pending a step
in Running mode dispatches the lowest pending source: the return address on the stack, IME and `imePending` cleared,
the source's bit of IF cleared, PC at its vector. -/
def Obligations.InterruptDispatch : Prop :=
  ∀ (s0 : State) (i : Source),
    let s := s0.takeInput.2
    let pending := s.busRead 0xFFFF &&& s.busRead 0xFF0F &&& 0x1F
    s.mode = .running → s.ime = true → pending.getLsbD i.index = true →
    (∀ j : Source, j.index < i.index → pending.getLsbD j.index = false) →
    let ret := if s.haltBug then s.pc - 1 else s.pc
    let pushed := ({ s with sp := s.sp - 2 }.busWrite (s.sp - 1) ret.hiByte).busWrite (s.sp - 2) ret.loByte
    let cleared := pushed.busWrite 0xFF0F (pushed.busRead 0xFF0F &&& ~~~ (1#8 <<< i.index))
    step s0 = .next
      { cleared with
        pc := BitVec.ofNat 16 (0x40 + 8 * i.index), ime := false, imePending := false, haltBug := false, cycles := 20 }

/-- R298, R332: a dispatch leaves A, F and every other general register; with the stack in memory that keeps what is
written (and not at IF) it leaves the return address there, low byte lower, clears just the one bit of IF, and leaves
every other byte. The halt-bug correction is the spec's choice (D15). -/
def Obligations.DispatchSavesOnlyPc : Prop :=
  ∀ (s0 t : State),
    let s := s0.takeInput.2
    s.Inv → s.mode = .running → s.ime = true → s.pending ≠ 0 → step s0 = .next t →
    (∀ r : Reg8, t.reg r = s.reg r) ∧ t.f = s.f ∧ t.sp = s.sp - 2 ∧ t.mode = .running ∧ t.bus.cart = s.bus.cart ∧ t.baseline = s.baseline ∧
    (s.bus.plainByte (s.sp - 1) → s.bus.plainByte (s.sp - 2) → s.sp - 1 ≠ 0xFF0F → s.sp - 2 ≠ 0xFF0F →
      t.busRead (s.sp - 2) = s.dispatchReturn.loByte ∧ t.busRead (s.sp - 1) = s.dispatchReturn.hiByte ∧
      t.busRead 0xFF0F = s.busRead 0xFF0F &&& ~~~ (lowestSource s.pending).mask ∧
      ∀ b : Word, ¬ sameByte b (s.sp - 1) → ¬ sameByte b (s.sp - 2) → b ≠ 0xFF0F → t.busRead b = s.busRead b)

/-- R295, R321 (Locked is the spec's choice, D12): in Locked mode a step changes nothing but the returned count, whatever is
pending and whatever `wake` is, and only a reset from outside leaves the mode. -/
def Obligations.LockedUntilReset : Prop :=
  (∀ s0 : State, s0.takeInput.2.mode = .locked → step s0 = .next { s0.takeInput.2 with cycles := 4 }) ∧
  (∀ s0 t : State, s0.mode = .locked →
    (∀ (x : StepInput) (rest : List StepInput) (init : ResetInit), s0.inputs = x :: rest → .reset init ∉ x.moves) →
    step s0 = .next t → t.snapshot = s0.snapshot)

/-- R293, R294, R302, R309 (D16, D17): a Stopped or Halted tick changes nothing but the count; `wake` or a pending source
sends the engine on in the same step; `wake` counts only in Stopped mode. -/
def Obligations.WaitsUntilWoken : Prop :=
  (∀ s0 : State, s0.takeInput.2.mode = .stopped → s0.takeInput.1 = false →
    step s0 = .next { s0.takeInput.2 with cycles := 4 }) ∧
  (∀ s0 : State, s0.takeInput.2.mode = .stopped → s0.takeInput.1 = true →
    step s0 = { s0.takeInput.2 with mode := .running }.engineStep true) ∧
  (∀ s0 : State, s0.takeInput.2.mode = .halted → s0.takeInput.2.pending = 0 →
    step s0 = .next { s0.takeInput.2 with cycles := 4 }) ∧
  (∀ s0 : State, s0.takeInput.2.mode = .halted → s0.takeInput.2.pending ≠ 0 →
    step s0 = { s0.takeInput.2 with mode := .running }.engineStep s0.takeInput.1) ∧
  (∀ (s : State) (wake : Bool), s.mode ≠ .stopped → s.engineStep wake = s.engineStep (!wake))

/-- R285, R11: no step stops. Every instruction and every step completes, whatever its operands, addresses and mode. -/
def Obligations.EveryStepCompletes : Prop :=
  (∀ (i : Instr) (s : State), ∃ t : State, exec i s = .next t) ∧ (∀ s : State, ∃ t : State, step s = .next t)

/-- R22, R30, R31, R271: what holds of a state holds after every step from it: F's low nibble 0, every store canonical and
inside its size, the bank registers in range, the halt bug armed only while Running. -/
def Obligations.StepKeepsInvariant : Prop :=
  ∀ s t : State, s.Inv → step s = .next t → t.Inv

/-- The state right after reset satisfies the invariant. -/
def Obligations.ResetStateInvariant : Prop := State.reset.Inv

/-- R33, R56: no step changes the ROM image or any other parameter of the cartridge. -/
def Obligations.StepKeepsCartridge : Prop :=
  ∀ s t : State, step s = .next t → t.bus.cart = s.bus.cart ∧ t.baseline = s.baseline

/-- R340: the count a step returns changes nothing else; what the last step returned has no effect on the next. -/
def Obligations.CycleCountIsOnlyReturned : Prop :=
  ∀ (s : State) (n : Nat), step { s with cycles := n } = step s

/-- R343 (END_OF_RUN is the spec's recommendation, D37; log entry 11): where the recommended end of a run holds, the next
engine step changes nothing but the count, as long as the outside makes no move. -/
def Obligations.EndOfRunIsFixed : Prop :=
  ∀ (wake wake' : Bool) (s t : State), s.engineStep wake = .next t → endOfRun wake s t = true →
    ∃ n : Nat, t.engineStep wake' = .next { t with cycles := n }

/-! ### Reset and the outside -/

/-- R35, R320, R321: reset from any state gives every register the baseline's value (F masked, R22), and the engine, IE and
the bank controller the values of the table; the defaults are the document's. Rows other than the registers are the
spec's decisions (D23, D27, D36). A machine right after power-on satisfies the invariant. -/
def Obligations.ResetEstablishesBaseline : Prop :=
  (∀ (s : State) (init : ResetInit),
    let t := s.applyReset init
    let r := s.baseline
    t.a = r.a ∧ t.f = r.f &&& 0xF0 ∧ t.b = r.b ∧ t.c = r.c ∧ t.d = r.d ∧ t.e = r.e ∧ t.h = r.h ∧ t.l = r.l ∧
    t.pc = r.pc ∧ t.sp = r.sp ∧ t.ime = r.ime ∧
    t.mode = .running ∧ t.imePending = false ∧ t.haltBug = false ∧ t.busRead 0xFFFF = 0x00 ∧
    t.bus.mbc = { ramEnable := false, romLow := 1, romHigh := 0, aux := 0, bankMode := 0 } ∧ t.bus.cart = s.bus.cart ∧ t.baseline = s.baseline) ∧
  (∀ s : State, s = State.reset →
    s.a = 0x01 ∧ s.f = 0x00 ∧ s.b = 0xFF ∧ s.c = 0x13 ∧ s.d = 0x00 ∧ s.e = 0xC1 ∧ s.h = 0x84 ∧ s.l = 0x03 ∧
    s.af = 0x0100 ∧ s.bc = 0xFF13 ∧ s.de = 0x00C1 ∧ s.hl = 0x8403 ∧ s.pc = 0x0100 ∧ s.sp = 0xFFFE ∧ s.ime = false ∧
    s.mode = .running ∧ s = State.powerOn Cartridge.blank {} {}) ∧
  (∀ (cart : Cartridge) (base : Baseline) (init : ResetInit), (State.powerOn cart base init).Inv)

/-- R35, R36, R320: reset can leave any contents in every RAM: whatever canonical contents are asked for are there. -/
def Obligations.ResetLeavesAnyMemory : Prop :=
  ∀ (s : State) (v w o i h x : Memory),
    Memory.ok 0x2000 v = true → Memory.ok 0x2000 w = true → Memory.ok 0xA0 o = true → Memory.ok 0x80 i = true →
    Memory.ok 0x7F h = true → Memory.ok (s.bus.cart.ramBanks.val * 0x2000) x = true →
    let t := s.applyReset { vram := v, wram := w, oam := o, io := i, hram := h, xram := x }
    t.bus.vram = v ∧ t.bus.wram = w ∧ t.bus.oam = o ∧ t.bus.io = i ∧ t.bus.hram = h ∧ t.bus.xram = x

/-- R6, R289: a move of the outside other than reset leaves the engine, the cartridge and every byte outside FF00 to FF7F
and FFFF alone, and does there what it says. That the outside reaches only these addresses, and finds plain storage there, is
the spec's own choice (D31, D30; log entry 13), so are the address FF0F and its eight stored bits (D3) and FFFF's (D27); the
moves as a list between steps are the model's form (log entry 1). -/
def Obligations.OutsideActsThroughTheWindow : Prop :=
  ∀ s : State, s.Inv →
    (∀ m : EnvMove, (∀ init : ResetInit, m ≠ .reset init) →
      (s.applyMove m).snapshot = s.snapshot ∧ (s.applyMove m).baseline = s.baseline ∧
      (s.applyMove m).bus.cart = s.bus.cart ∧ (s.applyMove m).bus.mbc = s.bus.mbc ∧
      ∀ b : Word, (b.toNat < 0xFF00 ∨ 0xFF7F < b.toNat) → b ≠ 0xFFFF → (s.applyMove m).busRead b = s.busRead b) ∧
    (∀ (o : BitVec 7) (v : Byte), (s.applyMove (.writeIo o v)).busRead (BitVec.ofNat 16 (0xFF00 + o.toNat)) = v) ∧
    (∀ v : Byte, (s.applyMove (.writeIe v)).busRead 0xFFFF = v) ∧
    (∀ i : Source, (s.applyMove (.raise i)).busRead 0xFF0F = s.busRead 0xFF0F ||| (1#8 <<< i.index)) ∧
    (∀ i : Source, (s.applyMove (.clear i)).busRead 0xFF0F = s.busRead 0xFF0F &&& ~~~ (1#8 <<< i.index))

/-- R9, R10, R11, R75: a machine is constructed exactly for the four kinds with rules, a size code of 0 to 8, an image of
`0x8000 << c` bytes and at most 16 RAM banks; it has `2 << c` ROM banks. Which kinds have no rules (D20) and the 16 RAM banks
(D24, in R9's table) are the spec's own choices. The rules make validity a precondition; that `construct` refuses exactly
what breaks it is the model's (log entry 10, DEDUCED). -/
def Obligations.ConstructAcceptsValidCartridges : Prop :=
  ∀ (kind : ControllerKind) (c length banks : Nat) (rom : List Host.Cell) (base : Baseline) (init : ResetInit),
    ((∃ t : State, construct kind c length banks rom base init = .next t) ↔
      (kind = .romOnly ∨ kind = .mbc1 ∨ kind = .mbc3 ∨ kind = .mbc5) ∧ c ≤ 8 ∧ length = 0x8000 <<< c ∧ banks ≤ 16) ∧
    (∀ t : State, construct kind c length banks rom base init = .next t →
      t.bus.cart.bankCount = 2 <<< c ∧ t.bus.cart.ramBanks.val = banks ∧ t.baseline = base ∧
      kind.supported = some t.bus.cart.kind)

/-! ### The bus and the bank controller -/

/-- R52, with R59, R60, R74, R76 and R80 written out: what a read of every address returns. The fill values (D5, D6; log
entry 8), plain storage in the I/O window (D30; log entry 13), the RAM clamp and RAM_BANKS (D24; log entry 17), the
echo offset (D39) and IE's eight stored bits (D27) are the spec's own choices. -/
def Obligations.ReadByRegion : Prop :=
  ∀ (s : State) (a : Word),
    s.busRead a =
      if a.toNat ≤ 0x3FFF then Memory.read s.bus.cart.rom a.toNat
      else if a.toNat ≤ 0x7FFF then Memory.read s.bus.cart.rom (s.bus.effRomBank * 0x4000 + (a.toNat - 0x4000))
      else if a.toNat ≤ 0x9FFF then Memory.read s.bus.vram (a.toNat - 0x8000)
      else if a.toNat ≤ 0xBFFF then
        if s.bus.cart.kind ≠ .romOnly ∧ s.bus.mbc.ramEnable = true ∧ 0 < s.bus.cart.ramBanks.val then
          Memory.read s.bus.xram (min s.bus.selRamBank (s.bus.cart.ramBanks.val - 1) * 0x2000 + (a.toNat - 0xA000))
        else Config.fillOpenbus
      else if a.toNat ≤ 0xDFFF then Memory.read s.bus.wram (a.toNat - 0xC000)
      else if a.toNat ≤ 0xFDFF then Memory.read s.bus.wram (a.toNat - 0xE000)
      else if a.toNat ≤ 0xFE9F then Memory.read s.bus.oam (a.toNat - 0xFE00)
      else if a.toNat ≤ 0xFEFF then Config.fillUnusable
      else if a.toNat ≤ 0xFF7F then Memory.read s.bus.io (a.toNat - 0xFF00)
      else if a.toNat ≤ 0xFFFE then Memory.read s.bus.hram (a.toNat - 0xFF80)
      else s.bus.ie

/-- R53, with R59, R60, R62, R76 and R80 written out: what a write to every address changes, and that it changes nothing
else. Discarding writes at FEA0 to FEFF (D5; log entry 8), plain storage in the I/O window (D30; log entry 13), the RAM clamp
and RAM_BANKS (D24; log entry 17), the echo offset (D39) and IE's eight stored bits (D27) are the spec's own
choices. -/
def Obligations.WriteByRegion : Prop :=
  ∀ (s : State) (a : Word) (v : Byte),
    s.busWrite a v =
      if a.toNat ≤ 0x7FFF then { s with bus.mbc := s.bus.mbcControlWrite a v }
      else if a.toNat ≤ 0x9FFF then { s with bus.vram := Memory.write s.bus.vram (a.toNat - 0x8000) v }
      else if a.toNat ≤ 0xBFFF then
        if s.bus.cart.kind ≠ .romOnly ∧ s.bus.mbc.ramEnable = true ∧ 0 < s.bus.cart.ramBanks.val then
          { s with
            bus.xram := Memory.write s.bus.xram
              (min s.bus.selRamBank (s.bus.cart.ramBanks.val - 1) * 0x2000 + (a.toNat - 0xA000)) v }
        else s
      else if a.toNat ≤ 0xDFFF then { s with bus.wram := Memory.write s.bus.wram (a.toNat - 0xC000) v }
      else if a.toNat ≤ 0xFDFF then { s with bus.wram := Memory.write s.bus.wram (a.toNat - 0xE000) v }
      else if a.toNat ≤ 0xFE9F then { s with bus.oam := Memory.write s.bus.oam (a.toNat - 0xFE00) v }
      else if a.toNat ≤ 0xFEFF then s
      else if a.toNat ≤ 0xFF7F then { s with bus.io := Memory.write s.bus.io (a.toNat - 0xFF00) v }
      else if a.toNat ≤ 0xFFFE then { s with bus.hram := Memory.write s.bus.hram (a.toNat - 0xFF80) v }
      else { s with bus.ie := v }

/-- R57 to R64, R69, R84: a byte written where writes are kept reads back, and writing it again changes nothing more,
whatever the region. -/
def Obligations.ReadAfterWrite : Prop :=
  ∀ (s : State) (a : Word) (v : Byte), s.Inv →
    (s.bus.plainByte a → (s.busWrite a v).busRead a = v) ∧
    (s.busWrite a v).busWrite a v = s.busWrite a v

/-- R52, R53, R84: a store leaves every byte it does not name; an echo address names the work RAM byte (R59). -/
def Obligations.WriteLeavesOtherBytes : Prop :=
  ∀ (s : State) (a b : Word) (v : Byte), s.Inv → ¬ isControl a → ¬ sameByte a b →
    (s.busWrite a v).busRead b = s.busRead b

/-- R56: a write to any address in 0000 to 7FFF, whoever makes it, changes the controller's registers and nothing else, the
ROM least of all: a plain write; every instruction all of whose stores go there, one control write per store; every
instruction, whose stores there are control writes wherever its others go; the rule's own examples with the bytes they
write (`LD (HL),r`, `INC (HL)`, `SET b,(HL)`, a push with SP there); and the two pushes of a dispatch. Which of two stores
comes first is the spec's own choice (D18, log entry 16), and so is what a dispatch pushes with the halt bug armed (D15). -/
def Obligations.RomWritesAreControlWrites : Prop :=
  (∀ (s : State) (a : Word) (v : Byte), a.toNat ≤ 0x7FFF →
    s.busWrite a v = { s with bus.mbc := s.bus.mbcControlWrite a v } ∧ (s.busWrite a v).bus.cart.rom = s.bus.cart.rom) ∧
  (∀ (i : Instr) (s t : State), i.wellFormed = true → exec i s = .next t → (∀ a ∈ i.form.stores s, isControl a) →
    ∃ vs : List Byte, vs.length = (i.form.stores s).length ∧
      t.bus =
        { s.bus with
          mbc := ((i.form.stores s).zip vs).foldl (fun m x => Bus.mbcControlWrite { s.bus with mbc := m } x.1 x.2)
            s.bus.mbc }) ∧
  (∀ (i : Instr) (s t : State), i.wellFormed = true → exec i s = .next t →
    t.bus.cart.rom = s.bus.cart.rom ∧
    ∃ vs : List Byte, vs.length = (i.form.stores s).length ∧
      t.bus = ((i.form.stores s).zip vs).foldl
        (fun u x => if isControl x.1 then { u with mbc := u.mbcControlWrite x.1 x.2 } else u.write x.1 x.2) s.bus) ∧
  (∀ (s : State) (r : Reg8), s.hl.toNat ≤ 0x7FFF →
    exec (Instr.ldIndROf r) s = .next { s with bus.mbc := s.bus.mbcControlWrite s.hl (s.reg r), cycles := 8 }) ∧
  (∀ s : State, s.hl.toNat ≤ 0x7FFF → ∃ f : Byte,
    exec .incIndHl s =
      .next { s with bus.mbc := s.bus.mbcControlWrite s.hl (s.busRead s.hl + 1), f := f, cycles := 12 }) ∧
  (∀ (s : State) (b : Idx3), s.hl.toNat ≤ 0x7FFF →
    exec (Instr.setOf b .indHl) s =
      .next { s with bus.mbc := s.bus.mbcControlWrite s.hl (s.busRead s.hl ||| (1#8 <<< b.toNat)), cycles := 16 }) ∧
  (∀ (s : State) (q : StackPair), (s.sp - 1).toNat ≤ 0x7FFF → (s.sp - 2).toNat ≤ 0x7FFF →
    exec (Instr.pushOf q) s =
      .next
        { s with
          sp := s.sp - 2, cycles := 16
          bus.mbc := Bus.mbcControlWrite { s.bus with mbc := s.bus.mbcControlWrite (s.sp - 1) (s.stackPair q).hiByte }
            (s.sp - 2) (s.stackPair q).loByte }) ∧
  (∀ s0 : State,
    let s := s0.takeInput.2
    s.mode = .running → s.ime = true → s.pending ≠ 0 → (s.sp - 1).toNat ≤ 0x7FFF → (s.sp - 2).toNat ≤ 0x7FFF →
    ∃ t : State, step s0 = .next t ∧
      t.bus =
        { s.bus with
          mbc := Bus.mbcControlWrite
            { s.bus with mbc := s.bus.mbcControlWrite (s.sp - 1) s.dispatchReturn.hiByte }
            (s.sp - 2) s.dispatchReturn.loByte
          io := Memory.write s.bus.io 0x0F (s.busRead 0xFF0F &&& ~~~ (lowestSource s.pending).mask) })

/-- R59, R329 (the offset is the spec's choice, D39): E000 to FDFF and C000 to DDFF are the same bytes, for reads and for
writes, and a write through one address is seen at once through the other. -/
def Obligations.EchoIsWorkRam : Prop :=
  ∀ (s : State) (a : Word) (v : Byte), 0xE000 ≤ a.toNat → a.toNat ≤ 0xFDFF →
    s.busRead a = s.busRead (a - 0x2000) ∧ s.busWrite a v = s.busWrite (a - 0x2000) v ∧
    (s.Inv → (s.busWrite a v).busRead (a - 0x2000) = v ∧ (s.busWrite (a - 0x2000) v).busRead a = v)

/-- R62, R76, R80, R328 (the fill values are the spec's choice, D5 and D6; log entry 8): a write to FEA0 to FEFF, or to
A000 to BFFF while external RAM is disabled, absent or on a ROM-only cartridge, changes nothing, the address reads
0xFF, and a RET with its stack there jumps to 0xFFFF. -/
def Obligations.LostWrites : Prop :=
  ∀ s : State,
    let lost := fun a : Word =>
      (0xFEA0 ≤ a.toNat ∧ a.toNat ≤ 0xFEFF) ∨
      (0xA000 ≤ a.toNat ∧ a.toNat ≤ 0xBFFF ∧
        (s.bus.cart.kind = .romOnly ∨ s.bus.mbc.ramEnable = false ∨ s.bus.cart.ramBanks = 0))
    (∀ (a : Word) (v : Byte), lost a → s.busWrite a v = s ∧ s.busRead a = 0xFF) ∧
    (lost s.sp → lost (s.sp + 1) →
      exec .ret s = .next { s with pc := 0xFFFF, sp := s.sp + 2, cycles := 16 })

/-- R55, R74, R80 (the RAM clamp D24): with the controller's registers in range, the ROM bank read from is the selected one
clamped to the cartridge, it is never 0, every read of 4000 to 7FFF lies inside the image, and external RAM that
answers is read inside its banks at the selected bank, clamped. -/
def Obligations.SelectedBanksInRange : Prop :=
  ∀ s : State, Mbc.ok s.bus.cart s.bus.mbc = true →
    1 ≤ s.bus.selRomBank ∧ s.bus.effRomBank = min s.bus.selRomBank (s.bus.cart.bankCount - 1) ∧ 1 ≤ s.bus.effRomBank ∧
    (∀ a : Word, 0x4000 ≤ a.toNat → a.toNat ≤ 0x7FFF → s.bus.romOffset a < s.bus.cart.bankCount * 0x4000) ∧
    (s.bus.ramOk = true → s.bus.effRamBank = min s.bus.selRamBank (s.bus.cart.ramBanks.val - 1) ∧
      ∀ a : Word, 0xA000 ≤ a.toNat → a.toNat ≤ 0xBFFF → s.bus.xramOffset a < s.bus.cart.ramBanks.val * 0x2000)

/-- R73, R77, R81 (sub-ranges and widths D22, sentinel D21, banking mode D33): the control writes of MBC1, and the banks
its registers select. -/
def Obligations.Mbc1Control : Prop :=
  ∀ (s : State) (a : Word) (v : Byte), s.bus.cart.kind = .mbc1 →
    let bank := v.toNat % 32 % s.bus.cart.bankCount
    (a.toNat ≤ 0x1FFF → s.bus.mbcControlWrite a v = { s.bus.mbc with ramEnable := decide (v.toNat % 16 = 0xA) }) ∧
    (0x2000 ≤ a.toNat → a.toNat ≤ 0x3FFF →
      s.bus.mbcControlWrite a v = { s.bus.mbc with romLow := BitVec.ofNat 8 (if bank = 0 then 1 else bank) }) ∧
    (0x4000 ≤ a.toNat → a.toNat ≤ 0x5FFF →
      s.bus.mbcControlWrite a v = { s.bus.mbc with aux := BitVec.ofNat 4 (v.toNat % 4) }) ∧
    (0x6000 ≤ a.toNat → a.toNat ≤ 0x7FFF →
      s.bus.mbcControlWrite a v = { s.bus.mbc with bankMode := BitVec.ofNat 1 (v.toNat % 2) }) ∧
    (s.bus.mbc.romLow.toNat < 32 →
      s.bus.selRomBank = if s.bus.mbc.bankMode = 0 then 32 * s.bus.mbc.aux.toNat + s.bus.mbc.romLow.toNat else s.bus.mbc.romLow.toNat) ∧
    s.bus.selRamBank = (if s.bus.mbc.bankMode = 1 then s.bus.mbc.aux.toNat else 0)

/-- R73, R76, R78, R81 (D21, D22, D34): the control writes of MBC3 and the banks it selects; a ROM-only cartridge ignores
control writes, shows bank 1 and has no external RAM. -/
def Obligations.Mbc3AndRomOnlyControl : Prop :=
  ∀ (s : State) (a : Word) (v : Byte),
    let bank := v.toNat % 128 % s.bus.cart.bankCount
    (s.bus.cart.kind = .mbc3 →
      (a.toNat ≤ 0x1FFF → s.bus.mbcControlWrite a v = { s.bus.mbc with ramEnable := decide (v.toNat % 16 = 0xA) }) ∧
      (0x2000 ≤ a.toNat → a.toNat ≤ 0x3FFF →
        s.bus.mbcControlWrite a v = { s.bus.mbc with romLow := BitVec.ofNat 8 (if bank = 0 then 1 else bank) }) ∧
      (0x4000 ≤ a.toNat → a.toNat ≤ 0x5FFF →
        s.bus.mbcControlWrite a v = { s.bus.mbc with aux := BitVec.ofNat 4 (v.toNat % 4) }) ∧
      (0x6000 ≤ a.toNat → a.toNat ≤ 0x7FFF → s.bus.mbcControlWrite a v = s.bus.mbc) ∧
      s.bus.selRomBank = s.bus.mbc.romLow.toNat ∧ s.bus.selRamBank = s.bus.mbc.aux.toNat) ∧
    (s.bus.cart.kind = .romOnly →
      s.bus.mbcControlWrite a v = s.bus.mbc ∧ s.bus.selRomBank = 1 ∧
      (0xA000 ≤ a.toNat → a.toNat ≤ 0xBFFF → s.busRead a = Config.fillOpenbus ∧ s.busWrite a v = s))

/-- R73, R79, R81 (D21, D22, D35): the control writes of MBC5, and the banks its registers select. -/
def Obligations.Mbc5Control : Prop :=
  ∀ (s : State) (a : Word) (v : Byte), s.bus.cart.kind = .mbc5 →
    let bank := (256 * s.bus.mbc.romHigh.toNat + s.bus.mbc.romLow.toNat) % s.bus.cart.bankCount
    (a.toNat ≤ 0x1FFF → s.bus.mbcControlWrite a v = { s.bus.mbc with ramEnable := decide (v.toNat % 16 = 0xA) }) ∧
    (0x2000 ≤ a.toNat → a.toNat ≤ 0x2FFF → s.bus.mbcControlWrite a v = { s.bus.mbc with romLow := v }) ∧
    (0x3000 ≤ a.toNat → a.toNat ≤ 0x3FFF →
      s.bus.mbcControlWrite a v = { s.bus.mbc with romHigh := BitVec.ofNat 1 (v.toNat % 2) }) ∧
    (0x4000 ≤ a.toNat → a.toNat ≤ 0x5FFF →
      s.bus.mbcControlWrite a v = { s.bus.mbc with aux := BitVec.ofNat 4 (v.toNat % 16) }) ∧
    (0x6000 ≤ a.toNat → a.toNat ≤ 0x7FFF → s.bus.mbcControlWrite a v = s.bus.mbc) ∧
    s.bus.selRomBank = (if bank = 0 then 1 else bank) ∧ s.bus.selRamBank = s.bus.mbc.aux.toNat

/-- R65, R66, R150, R151: a word pushed where writes are kept lies with its low byte at the new SP and its high byte above,
and a pop gives it back with SP restored; a word written at an address is read back there, low byte first. -/
def Obligations.WordsAreLittleEndian : Prop :=
  ∀ (s : State) (v : Word), s.Inv →
    (s.bus.plainByte (s.sp - 1) → s.bus.plainByte (s.sp - 2) →
      (s.push16 v).busRead (s.sp - 2) = BitVec.ofNat 8 (v.toNat % 256) ∧
      (s.push16 v).busRead (s.sp - 1) = BitVec.ofNat 8 (v.toNat / 256) ∧
      (s.push16 v).sp = s.sp - 2 ∧ (s.push16 v).pop16.1 = v ∧ (s.push16 v).pop16.2.sp = s.sp) ∧
    (∀ a : Word, s.bus.plainByte a → s.bus.plainByte (a + 1) →
      (s.busWrite16 a v).busRead a = BitVec.ofNat 8 (v.toNat % 256) ∧
      (s.busWrite16 a v).busRead (a + 1) = BitVec.ofNat 8 (v.toNat / 256) ∧
      (s.busWrite16 a v).busRead16 a = v)

/-! ### Frames -/

/-- R34: an instruction changes no register, flag or engine bit but those its line of `Form.writes` names, PC only if it is
a control transfer, and never the cartridge or what is still to come from outside. -/
def Obligations.RegisterFrame : Prop :=
  ∀ (i : Instr) (s t : State), i.wellFormed = true → exec i s = .next t →
    (∀ p : Piece, p ∉ i.form.writes → p.same s t) ∧ (i.form.jumps = false → t.pc = s.pc) ∧
    t.bus.cart = s.bus.cart ∧ t.baseline = s.baseline ∧ t.inputs = s.inputs

/-- R68, R56: what an instruction does to memory, IE and the bank controller is the bus writes at the addresses
`Form.stores` computes from the state it starts in, in that order, and nothing else; an instruction with no such
address leaves all of it. The order of the two stores of a word is the spec's own choice (D18, log entry 16). -/
def Obligations.MemoryChangesOnlyByStores : Prop :=
  ∀ (i : Instr) (s t : State), i.wellFormed = true → exec i s = .next t →
    ∃ vs : List Byte, vs.length = (i.form.stores s).length ∧
      t.bus = ((i.form.stores s).zip vs).foldl (fun u x => u.write x.1 x.2) s.bus

/-- R34, R56, R68: every byte outside the bytes stored to reads as before. Where no store is a control write this is every
address, and the bank controller keeps its registers; where one is, every address outside the two cartridge windows
a bank switch can change. -/
def Obligations.MemoryFrame : Prop :=
  ∀ (i : Instr) (s t : State), i.wellFormed = true → s.Inv → exec i s = .next t →
    ((∀ a ∈ i.form.stores s, ¬ isControl a) →
      t.bus.mbc = s.bus.mbc ∧ ∀ b : Word, (∀ a ∈ i.form.stores s, ¬ sameByte a b) → t.busRead b = s.busRead b) ∧
    (∀ b : Word, (b.toNat < 0x4000 ∨ 0x7FFF < b.toNat) → (b.toNat < 0xA000 ∨ 0xBFFF < b.toNat) →
      (∀ a ∈ i.form.stores s, isControl a ∨ ¬ sameByte a b) → t.busRead b = s.busRead b)

/-! ### Results: 8-bit loads -/

/-- R121 to R125: the 49 `LD r,s`, `LD r,n`, `LD r,(HL)`, `LD (HL),s` and `LD (HL),n`. -/
def Obligations.LoadRegisterAndByteAtHl : Prop :=
  ∀ (s : State) (rest : List Byte) (n : Byte),
    (∀ r q : Reg8,
      decode (BitVec.ofNat 8 (0x40 + 8 * r.code + q.code) :: rest) = .ok (Instr.ldRROf r q, rest) ∧
      exec (Instr.ldRROf r q) s = .next { s.setReg r (s.reg q) with cycles := 4 } ∧
      (s.setReg r (s.reg q)).reg r = s.reg q ∧ (s.setReg r (s.reg q)).reg q = s.reg q) ∧
    (∀ r : Reg8, exec (Instr.ldRROf r r) s = .next { s with cycles := 4 }) ∧
    (∀ r : Reg8,
      decode (BitVec.ofNat 8 (0x06 + 8 * r.code) :: n :: rest) = .ok (Instr.ldRNOf r n, rest) ∧
      exec (Instr.ldRNOf r n) s = .next { s.setReg r n with cycles := 8 }) ∧
    (∀ r : Reg8,
      decode (BitVec.ofNat 8 (0x46 + 8 * r.code) :: rest) = .ok (Instr.ldRIndOf r, rest) ∧
      exec (Instr.ldRIndOf r) s = .next { s.setReg r (s.busRead s.hl) with cycles := 8 }) ∧
    (∀ q : Reg8,
      decode (BitVec.ofNat 8 (0x70 + q.code) :: rest) = .ok (Instr.ldIndROf q, rest) ∧
      exec (Instr.ldIndROf q) s = .next { s.busWrite s.hl (s.reg q) with cycles := 8 }) ∧
    (decode (0x36 :: n :: rest) = .ok (.ldIndHlN n, rest) ∧
      exec (.ldIndHlN n) s = .next { s.busWrite s.hl n with cycles := 12 })

/-- R126 to R129, R136 to R139: A through BC, DE, and HL with post-increment and post-decrement. -/
def Obligations.LoadAccumulatorIndirect : Prop :=
  ∀ (s : State) (rest : List Byte),
    (decode (0x0A :: rest) = .ok (.ldAIndBc, rest) ∧
      exec .ldAIndBc s = .next { s with a := s.busRead s.bc, cycles := 8 }) ∧
    (decode (0x1A :: rest) = .ok (.ldAIndDe, rest) ∧
      exec .ldAIndDe s = .next { s with a := s.busRead s.de, cycles := 8 }) ∧
    (decode (0x02 :: rest) = .ok (.ldIndBcA, rest) ∧
      exec .ldIndBcA s = .next { s.busWrite s.bc s.a with cycles := 8 }) ∧
    (decode (0x12 :: rest) = .ok (.ldIndDeA, rest) ∧
      exec .ldIndDeA s = .next { s.busWrite s.de s.a with cycles := 8 }) ∧
    (decode (0x22 :: rest) = .ok (.ldHlIncA, rest) ∧
      exec .ldHlIncA s = .next
        { s.busWrite s.hl s.a with h := (s.hl + 1).hiByte, l := (s.hl + 1).loByte, cycles := 8 }) ∧
    (decode (0x32 :: rest) = .ok (.ldHlDecA, rest) ∧
      exec .ldHlDecA s = .next
        { s.busWrite s.hl s.a with h := (s.hl - 1).hiByte, l := (s.hl - 1).loByte, cycles := 8 }) ∧
    (decode (0x2A :: rest) = .ok (.ldAHlInc, rest) ∧
      exec .ldAHlInc s = .next
        { s with a := s.busRead s.hl, h := (s.hl + 1).hiByte, l := (s.hl + 1).loByte, cycles := 8 }) ∧
    (decode (0x3A :: rest) = .ok (.ldAHlDec, rest) ∧
      exec .ldAHlDec s = .next
        { s with a := s.busRead s.hl, h := (s.hl - 1).hiByte, l := (s.hl - 1).loByte, cycles := 8 })

/-- R130 to R135: A and the byte at an absolute or a high-page address. -/
def Obligations.LoadAccumulatorAbsolute : Prop :=
  ∀ (s : State) (rest : List Byte) (n lo hi : Byte),
    let nn : Word := BitVec.ofNat 16 (256 * hi.toNat + lo.toNat)
    let page := fun x : Byte => BitVec.ofNat 16 (0xFF00 + x.toNat)
    (decode (0xFA :: lo :: hi :: rest) = .ok (.ldAIndNn nn, rest) ∧
      exec (.ldAIndNn nn) s = .next { s with a := s.busRead nn, cycles := 16 }) ∧
    (decode (0xEA :: lo :: hi :: rest) = .ok (.ldIndNnA nn, rest) ∧
      exec (.ldIndNnA nn) s = .next { s.busWrite nn s.a with cycles := 16 }) ∧
    (decode (0xF0 :: n :: rest) = .ok (.ldhAIndN n, rest) ∧
      exec (.ldhAIndN n) s = .next { s with a := s.busRead (page n), cycles := 12 }) ∧
    (decode (0xE0 :: n :: rest) = .ok (.ldhIndNA n, rest) ∧
      exec (.ldhIndNA n) s = .next { s.busWrite (page n) s.a with cycles := 12 }) ∧
    (decode (0xF2 :: rest) = .ok (.ldhAIndC, rest) ∧
      exec .ldhAIndC s = .next { s with a := s.busRead (page s.c), cycles := 8 }) ∧
    (decode (0xE2 :: rest) = .ok (.ldhIndCA, rest) ∧
      exec .ldhIndCA s = .next { s.busWrite (page s.c) s.a with cycles := 8 })

/-! ### Results: 16-bit loads and the stack -/

/-- R152, R154: the 16-bit immediate loads and `LD SP,HL`. -/
def Obligations.LoadPairs : Prop :=
  ∀ (s : State) (rest : List Byte) (lo hi : Byte),
    let nn : Word := BitVec.ofNat 16 (256 * hi.toNat + lo.toNat)
    (∀ rr : Pair,
      decode (BitVec.ofNat 8 (0x01 + 16 * rr.code) :: lo :: hi :: rest) = .ok (Instr.ldPairNnOf rr nn, rest)) ∧
    exec (.ldBcNn nn) s = .next { s with b := hi, c := lo, cycles := 12 } ∧
    exec (.ldDeNn nn) s = .next { s with d := hi, e := lo, cycles := 12 } ∧
    exec (.ldHlNn nn) s = .next { s with h := hi, l := lo, cycles := 12 } ∧
    exec (.ldSpNn nn) s = .next { s with sp := nn, cycles := 12 } ∧
    decode (0xF9 :: rest) = .ok (.ldSpHl, rest) ∧
    exec .ldSpHl s = .next { s with sp := s.hl, cycles := 8 }

/-- R150, R151, R153, R156, R157 (the order of the two accesses is the spec's choice, D18): PUSH, POP and `LD (nn),SP`.
`POP AF` drops the low four bits. -/
def Obligations.StackTransfers : Prop :=
  ∀ (s : State) (rest : List Byte) (lo hi : Byte),
    let nn : Word := BitVec.ofNat 16 (256 * hi.toNat + lo.toNat)
    let popLo := s.busRead s.sp
    let popHi := s.busRead (s.sp + 1)
    (∀ q : StackPair,
      decode (BitVec.ofNat 8 (0xC5 + 16 * q.code) :: rest) = .ok (Instr.pushOf q, rest) ∧
      exec (Instr.pushOf q) s = .next
        { (s.busWrite (s.sp - 1) (s.stackPair q).hiByte).busWrite (s.sp - 2) (s.stackPair q).loByte with
          sp := s.sp - 2, cycles := 16 }) ∧
    (∀ q : StackPair, decode (BitVec.ofNat 8 (0xC1 + 16 * q.code) :: rest) = .ok (Instr.popOf q, rest)) ∧
    exec .popBc s = .next { s with b := popHi, c := popLo, sp := s.sp + 2, cycles := 12 } ∧
    exec .popDe s = .next { s with d := popHi, e := popLo, sp := s.sp + 2, cycles := 12 } ∧
    exec .popHl s = .next { s with h := popHi, l := popLo, sp := s.sp + 2, cycles := 12 } ∧
    exec .popAf s = .next { s with a := popHi, f := popLo &&& 0xF0, sp := s.sp + 2, cycles := 12 } ∧
    decode (0x08 :: lo :: hi :: rest) = .ok (.ldIndNnSp nn, rest) ∧
    exec (.ldIndNnSp nn) s = .next
      { (s.busWrite nn s.sp.loByte).busWrite (nn + 1) s.sp.hiByte with cycles := 20 }

/-- R155, R213: `LD HL,SP+e` and `ADD SP,e`: the sum with the signed displacement modulo 0x10000; Z and N cleared, H and C
the carries out of bits 3 and 7 of adding the unsigned byte. -/
def Obligations.StackPointerDisplacement : Prop :=
  ∀ (s : State) (rest : List Byte) (e : Byte),
    let sum : Word := BitVec.ofInt 16 ((s.sp.toNat : Int) + e.toInt)
    let flags := flagByte false false (decide (s.sp.toNat % 16 + e.toNat % 16 > 0xF))
      (decide (s.sp.toNat % 256 + e.toNat > 0xFF))
    (decode (0xF8 :: e :: rest) = .ok (.ldHlSpE e, rest) ∧
      exec (.ldHlSpE e) s = .next { s with h := sum.hiByte, l := sum.loByte, f := flags, cycles := 12 }) ∧
    (decode (0xE8 :: e :: rest) = .ok (.addSpE e, rest) ∧
      exec (.addSpE e) s = .next { s with sp := sum, f := flags, cycles := 16 })

/-! ### Results: 8-bit arithmetic and logic -/

/-- R165, R168 to R173: ADD and ADC in their three operand forms: the sum modulo 0x100, H and C its carries out of bits 3
and 7, a carry-in taking part in both. -/
def Obligations.Additions : Prop :=
  ∀ (s : State) (rest : List Byte) (o : Opnd) (n : Byte),
    let after := fun (v : Byte) (cin cycles : Nat) =>
      let sum := s.a.toNat + v.toNat + cin
      { s with
        a := BitVec.ofNat 8 sum
        f := flagByte (decide (sum % 256 = 0)) false (decide (s.a.toNat % 16 + v.toNat % 16 + cin > 0xF))
          (decide (sum > 0xFF))
        cycles := cycles }
    let cost := if o = .indHl then 8 else 4
    (decode (BitVec.ofNat 8 (0x80 + o.code) :: rest) = .ok (Instr.aluOf .add o, rest) ∧
      exec (Instr.aluOf .add o) s = .next (after (s.read8 o) 0 cost)) ∧
    (decode (0xC6 :: n :: rest) = .ok (.addAN n, rest) ∧ exec (.addAN n) s = .next (after n 0 8)) ∧
    (decode (BitVec.ofNat 8 (0x88 + o.code) :: rest) = .ok (Instr.aluOf .adc o, rest) ∧
      exec (Instr.aluOf .adc o) s = .next (after (s.read8 o) s.flagC.toNat cost)) ∧
    (decode (0xCE :: n :: rest) = .ok (.adcAN n, rest) ∧ exec (.adcAN n) s = .next (after n s.flagC.toNat 8))

/-- R166, R174 to R179, R189 to R191: SUB, SBC and CP in their three operand forms: the difference modulo 0x100, H and C its
borrows into bits 4 and 8, a borrow-in taking part in both; CP leaves A. -/
def Obligations.Subtractions : Prop :=
  ∀ (s : State) (rest : List Byte) (o : Opnd) (n : Byte),
    let flags := fun (v : Byte) (cin : Nat) =>
      flagByte (decide (s.a.toNat = v.toNat + cin ∨ s.a.toNat + 256 = v.toNat + cin)) true
        (decide (s.a.toNat % 16 < v.toNat % 16 + cin)) (decide (s.a.toNat < v.toNat + cin))
    let after := fun (v : Byte) (cin cycles : Nat) =>
      { s with a := BitVec.ofInt 8 ((s.a.toNat : Int) - v.toNat - cin), f := flags v cin, cycles := cycles }
    let compared := fun (v : Byte) (cycles : Nat) => { s with f := flags v 0, cycles := cycles }
    let cost := if o = .indHl then 8 else 4
    (decode (BitVec.ofNat 8 (0x90 + o.code) :: rest) = .ok (Instr.aluOf .sub o, rest) ∧
      exec (Instr.aluOf .sub o) s = .next (after (s.read8 o) 0 cost)) ∧
    (decode (0xD6 :: n :: rest) = .ok (.subN n, rest) ∧ exec (.subN n) s = .next (after n 0 8)) ∧
    (decode (BitVec.ofNat 8 (0x98 + o.code) :: rest) = .ok (Instr.aluOf .sbc o, rest) ∧
      exec (Instr.aluOf .sbc o) s = .next (after (s.read8 o) s.flagC.toNat cost)) ∧
    (decode (0xDE :: n :: rest) = .ok (.sbcAN n, rest) ∧ exec (.sbcAN n) s = .next (after n s.flagC.toNat 8)) ∧
    (decode (BitVec.ofNat 8 (0xB8 + o.code) :: rest) = .ok (Instr.aluOf .cp o, rest) ∧
      exec (Instr.aluOf .cp o) s = .next (compared (s.read8 o) cost)) ∧
    (decode (0xFE :: n :: rest) = .ok (.cpN n, rest) ∧ exec (.cpN n) s = .next (compared n 8))

/-- R167, R180 to R188: AND, XOR and OR in their three operand forms: Z from the result, N and C cleared, H set by AND
only. -/
def Obligations.LogicalOperations : Prop :=
  ∀ (s : State) (rest : List Byte) (o : Opnd) (n : Byte),
    let after := fun (res : Byte) (h : Bool) (cycles : Nat) =>
      { s with a := res, f := flagByte (decide (res = 0)) false h false, cycles := cycles }
    let cost := if o = .indHl then 8 else 4
    (decode (BitVec.ofNat 8 (0xA0 + o.code) :: rest) = .ok (Instr.aluOf .and o, rest) ∧
      exec (Instr.aluOf .and o) s = .next (after (s.a &&& s.read8 o) true cost)) ∧
    (decode (0xE6 :: n :: rest) = .ok (.andN n, rest) ∧ exec (.andN n) s = .next (after (s.a &&& n) true 8)) ∧
    (decode (BitVec.ofNat 8 (0xA8 + o.code) :: rest) = .ok (Instr.aluOf .xor o, rest) ∧
      exec (Instr.aluOf .xor o) s = .next (after (s.a ^^^ s.read8 o) false cost)) ∧
    (decode (0xEE :: n :: rest) = .ok (.xorN n, rest) ∧ exec (.xorN n) s = .next (after (s.a ^^^ n) false 8)) ∧
    (decode (BitVec.ofNat 8 (0xB0 + o.code) :: rest) = .ok (Instr.aluOf .or o, rest) ∧
      exec (Instr.aluOf .or o) s = .next (after (s.a ||| s.read8 o) false cost)) ∧
    (decode (0xF6 :: n :: rest) = .ok (.orN n, rest) ∧ exec (.orN n) s = .next (after (s.a ||| n) false 8))

/-- R192 to R195: INC and DEC of a register and of the byte at HL, which is read once and written once; C keeps its value. -/
def Obligations.IncrementsAndDecrements : Prop :=
  ∀ (s : State) (rest : List Byte) (o : Opnd),
    let v := s.read8 o
    let cost := if o = .indHl then 12 else 4
    (decode (BitVec.ofNat 8 (0x04 + 8 * o.code) :: rest) = .ok (Instr.incOf o, rest) ∧
      exec (Instr.incOf o) s = .next
        { s.write8 o (BitVec.ofNat 8 (v.toNat + 1)) with
          f := flagByte (decide (v.toNat = 0xFF)) false (decide (v.toNat % 16 = 0xF)) (s.f.getLsbD 4)
          cycles := cost }) ∧
    (decode (BitVec.ofNat 8 (0x05 + 8 * o.code) :: rest) = .ok (Instr.decOf o, rest) ∧
      exec (Instr.decOf o) s = .next
        { s.write8 o (BitVec.ofNat 8 (v.toNat + 255)) with
          f := flagByte (decide (v.toNat = 1)) true (decide (v.toNat % 16 = 0)) (s.f.getLsbD 4)
          cycles := cost })

/-- R196 to R199: DAA by its pseudocode on integers, CPL, SCF and CCF. -/
def Obligations.DecimalAdjustAndFlags : Prop :=
  ∀ (s : State) (rest : List Byte),
    let z := s.f.getLsbD 7
    let n := s.f.getLsbD 6
    let h := s.f.getLsbD 5
    let c := s.f.getLsbD 4
    let a : Int := s.a.toNat
    let carry : Bool := c || (!n && decide (s.a.toNat > 0x99))
    let adjusted : Int :=
      if n then a - (if c then 0x60 else 0) - (if h then 0x06 else 0)
      else a + (if carry then 0x60 else 0) + (if h || decide (s.a.toNat % 16 > 9) then 0x06 else 0)
    (decode (0x27 :: rest) = .ok (.daa, rest) ∧
      exec .daa s = .next
        { s with
          a := BitVec.ofInt 8 adjusted
          f := flagByte (decide (adjusted % 256 = 0)) n false carry
          cycles := 4 }) ∧
    (decode (0x2F :: rest) = .ok (.cpl, rest) ∧
      exec .cpl s = .next { s with a := s.a ^^^ 0xFF, f := flagByte z true true c, cycles := 4 }) ∧
    (decode (0x37 :: rest) = .ok (.scf, rest) ∧
      exec .scf s = .next { s with f := flagByte z false false true, cycles := 4 }) ∧
    (decode (0x3F :: rest) = .ok (.ccf, rest) ∧
      exec .ccf s = .next { s with f := flagByte z false false (!c), cycles := 4 })

/-- R196: after ADC or SBC of two packed BCD bytes, DAA leaves the packed BCD sum or difference modulo 100 in A and the
decimal carry or borrow in C. -/
def Obligations.DecimalAdjustGivesBcd : Prop :=
  ∀ (s t u : State) (x y : Nat), x < 100 → y < 100 →
    let bcd := fun k : Nat => BitVec.ofNat 8 (16 * (k / 10) + k % 10)
    let cin := s.flagC.toNat
    s.a = bcd x → s.b = bcd y →
    (exec .adcAB s = .next t → exec .daa t = .next u →
      u.a = bcd ((x + y + cin) % 100) ∧ u.flagC = decide (x + y + cin ≥ 100)) ∧
    (exec .sbcAB s = .next t → exec .daa t = .next u →
      u.a = bcd ((x + 100 - y - cin) % 100) ∧ u.flagC = decide (x < y + cin))

/-! ### Results: 16-bit arithmetic -/

/-- R210 to R212: `ADD HL,rr` with H and C the carries out of bits 11 and 15 and Z kept; `INC rr` and `DEC rr`, which touch
no flag. -/
def Obligations.PairArithmetic : Prop :=
  ∀ (s : State) (rest : List Byte) (rr : Pair),
    let sum := s.hl.toNat + (s.pair rr).toNat
    let res : Word := BitVec.ofNat 16 sum
    (decode (BitVec.ofNat 8 (0x09 + 16 * rr.code) :: rest) = .ok (Instr.addHlOf rr, rest) ∧
      exec (Instr.addHlOf rr) s = .next
        { s with
          h := res.hiByte, l := res.loByte
          f := flagByte (s.f.getLsbD 7) false (decide (s.hl.toNat % 4096 + (s.pair rr).toNat % 4096 > 0xFFF))
            (decide (sum > 0xFFFF))
          cycles := 8 }) ∧
    (decode (BitVec.ofNat 8 (0x03 + 16 * rr.code) :: rest) = .ok (Instr.incPairOf rr, rest) ∧
      exec (Instr.incPairOf rr) s = .next
        { s.setPair rr (BitVec.ofNat 16 ((s.pair rr).toNat + 1)) with cycles := 8 }) ∧
    (decode (BitVec.ofNat 8 (0x0B + 16 * rr.code) :: rest) = .ok (Instr.decPairOf rr, rest) ∧
      exec (Instr.decPairOf rr) s = .next
        { s.setPair rr (BitVec.ofNat 16 ((s.pair rr).toNat + 0xFFFF)) with cycles := 8 })

/-! ### Results: rotates, shifts and bits -/

/-- R220 to R223: the accumulator rotates, which always clear Z. -/
def Obligations.AccumulatorRotates : Prop :=
  ∀ (s : State) (rest : List Byte),
    let a := s.a.toNat
    let c := s.flagC.toNat
    let after := fun (res : Nat) (carry : Bool) =>
      { s with a := BitVec.ofNat 8 res, f := flagByte false false false carry, cycles := 4 }
    (decode (0x07 :: rest) = .ok (.rlca, rest) ∧
      exec .rlca s = .next (after (2 * a % 256 + a / 128) (decide (a ≥ 128)))) ∧
    (decode (0x0F :: rest) = .ok (.rrca, rest) ∧
      exec .rrca s = .next (after (a / 2 + 128 * (a % 2)) (decide (a % 2 = 1)))) ∧
    (decode (0x17 :: rest) = .ok (.rla, rest) ∧
      exec .rla s = .next (after (2 * a % 256 + c) (decide (a ≥ 128)))) ∧
    (decode (0x1F :: rest) = .ok (.rra, rest) ∧
      exec .rra s = .next (after (a / 2 + 128 * c) (decide (a % 2 = 1))))

/-- R225 to R232: RLC, RRC, RL and RR of a register and of the byte at HL, Z from the result. -/
def Obligations.ExtendedRotates : Prop :=
  ∀ (s : State) (rest : List Byte) (o : Opnd),
    let v := (s.read8 o).toNat
    let c := s.flagC.toNat
    let after := fun (res : Nat) (carry : Bool) =>
      { s.write8 o (BitVec.ofNat 8 res) with
        f := flagByte (decide (res = 0)) false false carry, cycles := if o = .indHl then 16 else 8 }
    (decode (0xCB :: BitVec.ofNat 8 (0x00 + o.code) :: rest) = .ok (Instr.rotOf .rlc o, rest) ∧
      exec (Instr.rotOf .rlc o) s = .next (after (2 * v % 256 + v / 128) (decide (v ≥ 128)))) ∧
    (decode (0xCB :: BitVec.ofNat 8 (0x08 + o.code) :: rest) = .ok (Instr.rotOf .rrc o, rest) ∧
      exec (Instr.rotOf .rrc o) s = .next (after (v / 2 + 128 * (v % 2)) (decide (v % 2 = 1)))) ∧
    (decode (0xCB :: BitVec.ofNat 8 (0x10 + o.code) :: rest) = .ok (Instr.rotOf .rl o, rest) ∧
      exec (Instr.rotOf .rl o) s = .next (after (2 * v % 256 + c) (decide (v ≥ 128)))) ∧
    (decode (0xCB :: BitVec.ofNat 8 (0x18 + o.code) :: rest) = .ok (Instr.rotOf .rr o, rest) ∧
      exec (Instr.rotOf .rr o) s = .next (after (v / 2 + 128 * c) (decide (v % 2 = 1))))

/-- R233 to R240: SLA, SRA, SWAP and SRL of a register and of the byte at HL, Z from the result, C cleared by SWAP. -/
def Obligations.ShiftsAndSwap : Prop :=
  ∀ (s : State) (rest : List Byte) (o : Opnd),
    let v := (s.read8 o).toNat
    let after := fun (res : Nat) (carry : Bool) =>
      { s.write8 o (BitVec.ofNat 8 res) with
        f := flagByte (decide (res = 0)) false false carry, cycles := if o = .indHl then 16 else 8 }
    (decode (0xCB :: BitVec.ofNat 8 (0x20 + o.code) :: rest) = .ok (Instr.rotOf .sla o, rest) ∧
      exec (Instr.rotOf .sla o) s = .next (after (2 * v % 256) (decide (v ≥ 128)))) ∧
    (decode (0xCB :: BitVec.ofNat 8 (0x28 + o.code) :: rest) = .ok (Instr.rotOf .sra o, rest) ∧
      exec (Instr.rotOf .sra o) s = .next (after (v / 2 + 128 * (v / 128)) (decide (v % 2 = 1)))) ∧
    (decode (0xCB :: BitVec.ofNat 8 (0x30 + o.code) :: rest) = .ok (Instr.rotOf .swap o, rest) ∧
      exec (Instr.rotOf .swap o) s = .next (after (16 * (v % 16) + v / 16) false)) ∧
    (decode (0xCB :: BitVec.ofNat 8 (0x38 + o.code) :: rest) = .ok (Instr.rotOf .srl o, rest) ∧
      exec (Instr.rotOf .srl o) s = .next (after (v / 2) (decide (v % 2 = 1))))

/-- R241 to R246: BIT, which writes nothing and keeps C, RES and SET, which touch no flag. -/
def Obligations.BitTestResetAndSet : Prop :=
  ∀ (s : State) (rest : List Byte) (b : Idx3) (o : Opnd),
    let v := s.read8 o
    (decode (0xCB :: BitVec.ofNat 8 (0x40 + 8 * b.toNat + o.code) :: rest) = .ok (Instr.bitOf b o, rest) ∧
      exec (Instr.bitOf b o) s = .next
        { s with
          f := flagByte (decide (v.toNat / 2 ^ b.toNat % 2 = 0)) false true (s.f.getLsbD 4)
          cycles := if o = .indHl then 12 else 8 }) ∧
    (decode (0xCB :: BitVec.ofNat 8 (0x80 + 8 * b.toNat + o.code) :: rest) = .ok (Instr.resOf b o, rest) ∧
      exec (Instr.resOf b o) s = .next
        { s.write8 o (BitVec.ofNat 8 (v.toNat - 2 ^ b.toNat * (v.toNat / 2 ^ b.toNat % 2))) with
          cycles := if o = .indHl then 16 else 8 }) ∧
    (decode (0xCB :: BitVec.ofNat 8 (0xC0 + 8 * b.toNat + o.code) :: rest) = .ok (Instr.setOf b o, rest) ∧
      exec (Instr.setOf b o) s = .next
        { s.write8 o (BitVec.ofNat 8 (v.toNat + 2 ^ b.toNat * (1 - v.toNat / 2 ^ b.toNat % 2))) with
          cycles := if o = .indHl then 16 else 8 })

/-! ### Results: control transfers -/

/-- R250 to R255: JP, `JP cc`, `JP HL`, JR and `JR cc`; PC already holds the next instruction's address, and the larger
count goes with a true condition. -/
def Obligations.Jumps : Prop :=
  ∀ (s : State) (rest : List Byte) (cc : Cond) (e lo hi : Byte),
    let nn : Word := BitVec.ofNat 16 (256 * hi.toNat + lo.toNat)
    let near : Word := BitVec.ofInt 16 ((s.pc.toNat : Int) + e.toInt)
    let taken : Bool :=
      match cc with
      | .nz => !s.f.getLsbD 7
      | .z => s.f.getLsbD 7
      | .nc => !s.f.getLsbD 4
      | .c => s.f.getLsbD 4
    (decode (0xC3 :: lo :: hi :: rest) = .ok (.jpNn nn, rest) ∧
      exec (.jpNn nn) s = .next { s with pc := nn, cycles := 16 }) ∧
    (decode (BitVec.ofNat 8 (0xC2 + 8 * cc.code) :: lo :: hi :: rest) = .ok (Instr.jpCcOf cc nn, rest) ∧
      exec (Instr.jpCcOf cc nn) s =
        .next (if taken then { s with pc := nn, cycles := 16 } else { s with cycles := 12 })) ∧
    (decode (0xE9 :: rest) = .ok (.jpHl, rest) ∧ exec .jpHl s = .next { s with pc := s.hl, cycles := 4 }) ∧
    (decode (0x18 :: e :: rest) = .ok (.jrE e, rest) ∧
      exec (.jrE e) s = .next { s with pc := near, cycles := 12 }) ∧
    (decode (BitVec.ofNat 8 (0x20 + 8 * cc.code) :: e :: rest) = .ok (Instr.jrCcOf cc e, rest) ∧
      exec (Instr.jrCcOf cc e) s =
        .next (if taken then { s with pc := near, cycles := 12 } else { s with cycles := 8 }))

/-- R256 to R261 (order of the stack accesses D18, RETI's immediate enable D13): CALL, `CALL cc`, RET, `RET cc`, RETI and
RST. PC already holds the next instruction's address, which is what a call pushes. -/
def Obligations.CallsAndReturns : Prop :=
  ∀ (s : State) (rest : List Byte) (cc : Cond) (t : Idx3) (lo hi : Byte),
    let nn : Word := BitVec.ofNat 16 (256 * hi.toNat + lo.toNat)
    let pushed := (s.busWrite (s.sp - 1) s.pc.hiByte).busWrite (s.sp - 2) s.pc.loByte
    let back : Word := BitVec.ofNat 16 (256 * (s.busRead (s.sp + 1)).toNat + (s.busRead s.sp).toNat)
    let taken : Bool :=
      match cc with
      | .nz => !s.f.getLsbD 7
      | .z => s.f.getLsbD 7
      | .nc => !s.f.getLsbD 4
      | .c => s.f.getLsbD 4
    (decode (0xCD :: lo :: hi :: rest) = .ok (.callNn nn, rest) ∧
      exec (.callNn nn) s = .next { pushed with sp := s.sp - 2, pc := nn, cycles := 24 }) ∧
    (decode (BitVec.ofNat 8 (0xC4 + 8 * cc.code) :: lo :: hi :: rest) = .ok (Instr.callCcOf cc nn, rest) ∧
      exec (Instr.callCcOf cc nn) s = .next
        (if taken then { pushed with sp := s.sp - 2, pc := nn, cycles := 24 } else { s with cycles := 12 })) ∧
    (decode (0xC9 :: rest) = .ok (.ret, rest) ∧
      exec .ret s = .next { s with pc := back, sp := s.sp + 2, cycles := 16 }) ∧
    (decode (BitVec.ofNat 8 (0xC0 + 8 * cc.code) :: rest) = .ok (Instr.retCcOf cc, rest) ∧
      exec (Instr.retCcOf cc) s = .next
        (if taken then { s with pc := back, sp := s.sp + 2, cycles := 20 } else { s with cycles := 8 })) ∧
    (decode (0xD9 :: rest) = .ok (.reti, rest) ∧
      exec .reti s = .next
        { s with pc := back, sp := s.sp + 2, ime := true, imePending := false, cycles := 16 }) ∧
    (decode (BitVec.ofNat 8 (0xC7 + 8 * t.code) :: rest) = .ok (Instr.rstOf t, rest) ∧
      exec (Instr.rstOf t) s = .next
        { pushed with sp := s.sp - 2, pc := BitVec.ofNat 16 (8 * t.toNat), cycles := 16 })

/-! ### Results: the engine itself -/

/-- R270 to R275, R110 (the mechanisms of HALT, STOP, DI, EI and the illegal opcodes are the spec's choices D12 to D17, their
counts D8; every opcode but NOP's 0x00 is general knowledge by the spec's own words, log entry 15): NOP, HALT with the halt
bug, STOP, DI, EI, and the eleven illegal opcodes, each at its own byte. -/
def Obligations.EngineInstructions : Prop :=
  ∀ (s : State) (rest : List Byte) (n : Byte),
    decode (0x00 :: rest) = .ok (.nop, rest) ∧ decode (0x76 :: rest) = .ok (.halt, rest) ∧
    decode (0x10 :: n :: rest) = .ok (.stop n, rest) ∧
    decode (0xF3 :: rest) = .ok (.di, rest) ∧ decode (0xFB :: rest) = .ok (.ei, rest) ∧
    decode (0xD3 :: rest) = .ok (.illegalD3, rest) ∧ decode (0xDB :: rest) = .ok (.illegalDB, rest) ∧
    decode (0xDD :: rest) = .ok (.illegalDD, rest) ∧ decode (0xE3 :: rest) = .ok (.illegalE3, rest) ∧
    decode (0xE4 :: rest) = .ok (.illegalE4, rest) ∧ decode (0xEB :: rest) = .ok (.illegalEB, rest) ∧
    decode (0xEC :: rest) = .ok (.illegalEC, rest) ∧ decode (0xED :: rest) = .ok (.illegalED, rest) ∧
    decode (0xF4 :: rest) = .ok (.illegalF4, rest) ∧ decode (0xFC :: rest) = .ok (.illegalFC, rest) ∧
    decode (0xFD :: rest) = .ok (.illegalFD, rest) ∧
    exec .nop s = .next { s with cycles := 4 } ∧
    (s.ime = false → s.busRead 0xFFFF &&& s.busRead 0xFF0F &&& 0x1F ≠ 0 →
      exec .halt s = .next { s with haltBug := true, cycles := 4 }) ∧
    (s.ime = true ∨ s.busRead 0xFFFF &&& s.busRead 0xFF0F &&& 0x1F = 0 →
      exec .halt s = .next { s with mode := .halted, cycles := 4 }) ∧
    exec (.stop n) s = .next { s with mode := .stopped, cycles := 4 } ∧
    exec .di s = .next { s with ime := false, imePending := false, cycles := 4 } ∧
    exec .ei s = .next { s with imePending := true, cycles := 4 } ∧
    ∀ x : IllegalOp, exec (Instr.illegalOf x) s = .next { s with mode := .locked, cycles := 4 }

/-- R276 (the prefix value is D2): the row of the prefix is no instruction and is never decoded; its meaning fetches the
second byte and is the extended-table entry for it, which always completes. -/
def Obligations.PrefixRunsExtendedTable : Prop :=
  Instr.prefixCb.wellFormed = false ∧
  (∀ (op2 : Byte) (rest : List Byte), decode (0xCB :: op2 :: rest) = .ok (extendedInstr op2, rest)) ∧
  (∀ s : State,
    exec .prefixCb s = exec (extendedInstr (s.busRead s.pc)) { s with pc := s.pc + 1 } ∧
    ∃ t : State, exec .prefixCb s = .next t ∧ t.pc = s.pc + 1 ∧ t.sp = s.sp ∧
      (t.cycles = 8 ∨ t.cycles = 12 ∨ t.cycles = 16))

/-! ### Runs -/

/-- R343, R9 (`END_OF_RUN`, an argument, D37; log entry 11): a run goes on exactly as long as its argument lets it. It stands
in the state after `k` steps, no step before the last one ended it, and it ended by the argument exactly if the last one
did; otherwise it made all `n` steps. With the recommended argument a run that ended, and that the outside has no more input
for, stands in a state that any number of further steps changes only in the count. -/
def Obligations.RunEndsByItsArgument : Prop :=
  (∀ (ends : EndOfRun) (n : Nat) (s : State), ∃ (ended : Bool) (k : Nat) (t : State),
    runUntil ends n s = .next (ended, t) ∧ core.run k s = .next t ∧ k ≤ n ∧ (if ended then 1 ≤ k else k = n) ∧
    ∀ (j : Nat) (u v : State), core.run j s = .next u → step u = .next v →
      (j + 1 < k → ends u.takeInput.1 u.takeInput.2 v = false) ∧
      (j + 1 = k → ends u.takeInput.1 u.takeInput.2 v = ended)) ∧
  (∀ (n m : Nat) (s t : State), runUntil endOfRun n s = .next (true, t) → t.inputs = [] →
    ∃ c : Nat, core.run m t = .next { t with cycles := c })
end

