-- ==== Sys2Proof/Laws/Memory.lean ====
section
/-! SUPPORT. The laws of a byte store: a read after a write, and that every operation keeps the canonical form and the
bounds. -/

namespace Sys2Proof.Machine

@[simp] theorem Memory.read_nil (a : Nat) : Memory.read [] a = Memory.unlisted := rfl

theorem Memory.read_cons (a b : Nat) (v : Byte) (m : Memory) (h : Memory.read m a = Memory.unlisted) :
    Memory.read (Memory.cons a v m) b = if b = a then v else Memory.read m b := by
  unfold Memory.cons
  by_cases hv : v = Memory.unlisted
  · rw [if_pos hv]
    by_cases hb : b = a
    · rw [if_pos hb, hb, h, hv]
    · rw [if_neg hb]
  · rw [if_neg hv]
    by_cases hb : a = b
    · simp only [Memory.read, hb, if_true]
    · simp only [Memory.read, hb, Ne.symm hb, if_false]

/-- Nothing is listed below the bound a canonical list rises from. -/
theorem Memory.read_below (m : Memory) (lo a : Nat) (h : Memory.wfFrom lo m = true) (ha : a < lo) :
    Memory.read m a = Memory.unlisted := by
  induction m generalizing lo with
  | nil => rfl
  | cons c m ih =>
    obtain ⟨k, v⟩ := c
    simp only [Memory.wfFrom, Bool.and_eq_true, decide_eq_true_eq] at h
    have hk : k ≠ a := by omega
    simp only [Memory.read, hk, if_false]
    exact ih (k + 1) h.2 (by omega)

/-- A read after a write (R84): the byte written at its own offset, what was there at every other. -/
theorem Memory.read_write (m : Memory) (a b : Nat) (v : Byte) (h : Memory.wf m = true) :
    Memory.read (Memory.write m a v) b = if b = a then v else Memory.read m b := by
  suffices H : ∀ lo, Memory.wfFrom lo m = true →
      Memory.read (Memory.write m a v) b = if b = a then v else Memory.read m b from H 0 h
  clear h
  intro lo h
  induction m generalizing lo with
  | nil => exact Memory.read_cons a b v [] rfl
  | cons c m ih =>
    obtain ⟨k, w⟩ := c
    have hm := h
    simp only [Memory.wfFrom, Bool.and_eq_true, decide_eq_true_eq] at hm
    unfold Memory.write
    split
    · rename_i hak
      refine Memory.read_cons a b v _ ?_
      have hne : k ≠ a := by omega
      simp only [Memory.read, hne, if_false]
      exact Memory.read_below m (k + 1) a hm.2 (by omega)
    · split
      · rename_i hak
        subst hak
        rw [Memory.read_cons a b v m (Memory.read_below m (a + 1) a hm.2 (by omega))]
        by_cases hb : b = a
        · simp [hb]
        · simp [hb, Memory.read, Ne.symm hb]
      · rename_i hlt hne
        by_cases hb : k = b
        · subst hb
          simp [Memory.read, Ne.symm hne]
        · simp only [Memory.read, hb, if_false]
          exact ih (k + 1) hm.2

@[simp] theorem Memory.read_write_same (m : Memory) (a : Nat) (v : Byte) (h : Memory.wf m = true) :
    Memory.read (Memory.write m a v) a = v := by simp [Memory.read_write m a a v h]

theorem Memory.read_write_other (m : Memory) (a b : Nat) (v : Byte) (h : Memory.wf m = true) (hb : b ≠ a) :
    Memory.read (Memory.write m a v) b = Memory.read m b := by simp [Memory.read_write m a b v h, hb]

theorem Memory.wfFrom_mono (m : Memory) (lo lo' : Nat) (h : Memory.wfFrom lo m = true) (hl : lo' ≤ lo) :
    Memory.wfFrom lo' m = true := by
  cases m with
  | nil => rfl
  | cons c m =>
    obtain ⟨k, v⟩ := c
    simp only [Memory.wfFrom, Bool.and_eq_true, decide_eq_true_eq] at h ⊢
    exact ⟨⟨by omega, h.1.2⟩, h.2⟩

theorem Memory.wfFrom_cons (m : Memory) (lo a : Nat) (v : Byte) (h : Memory.wfFrom (a + 1) m = true) (hl : lo ≤ a) :
    Memory.wfFrom lo (Memory.cons a v m) = true := by
  unfold Memory.cons
  split
  · exact Memory.wfFrom_mono m (a + 1) lo h (by omega)
  · rename_i hv
    simp only [Memory.wfFrom, Bool.and_eq_true, decide_eq_true_eq, bne_iff_ne]
    exact ⟨⟨hl, hv⟩, h⟩

theorem Memory.wfFrom_write (m : Memory) (lo a : Nat) (v : Byte) (h : Memory.wfFrom lo m = true) (hl : lo ≤ a) :
    Memory.wfFrom lo (Memory.write m a v) = true := by
  induction m generalizing lo with
  | nil => exact Memory.wfFrom_cons [] lo a v rfl hl
  | cons c m ih =>
    obtain ⟨k, w⟩ := c
    have hm := h
    simp only [Memory.wfFrom, Bool.and_eq_true, decide_eq_true_eq] at hm
    unfold Memory.write
    split
    · rename_i hak
      refine Memory.wfFrom_cons _ lo a v ?_ hl
      simp only [Memory.wfFrom, Bool.and_eq_true, decide_eq_true_eq]
      exact ⟨⟨by omega, hm.1.2⟩, hm.2⟩
    · split
      · rename_i hak
        subst hak
        exact Memory.wfFrom_cons m lo a v hm.2 hl
      · rename_i hlt hne
        simp only [Memory.wfFrom, Bool.and_eq_true, decide_eq_true_eq]
        exact ⟨hm.1, ih (k + 1) hm.2 (by omega)⟩

/-- A write keeps the canonical form. -/
theorem Memory.wf_write (m : Memory) (a : Nat) (v : Byte) (h : Memory.wf m = true) :
    Memory.wf (Memory.write m a v) = true := Memory.wfFrom_write m 0 a v h (Nat.zero_le a)

theorem Memory.within_cons (m : Memory) (size a : Nat) (v : Byte) (h : Memory.within size m = true) (ha : a < size) :
    Memory.within size (Memory.cons a v m) = true := by
  unfold Memory.cons
  split
  · exact h
  · simpa [Memory.within, ha] using h

/-- A write inside a store leaves every entry inside it. -/
theorem Memory.within_write (m : Memory) (size a : Nat) (v : Byte) (h : Memory.within size m = true) (ha : a < size) :
    Memory.within size (Memory.write m a v) = true := by
  induction m with
  | nil => exact Memory.within_cons [] size a v h ha
  | cons c m ih =>
    obtain ⟨k, w⟩ := c
    have hm : k < size ∧ Memory.within size m = true := by simpa [Memory.within] using h
    unfold Memory.write
    split
    · exact Memory.within_cons _ size a v h ha
    · split
      · exact Memory.within_cons m size a v hm.2 ha
      · have := ih hm.2
        simp only [Memory.within, List.all_cons, Bool.and_eq_true, decide_eq_true_eq] at this ⊢
        exact ⟨hm.1, this⟩

/-- A write inside a store keeps it canonical and inside its size. -/
theorem Memory.ok_write (size : Nat) (m : Memory) (a : Nat) (v : Byte) (h : Memory.ok size m = true) (ha : a < size) :
    Memory.ok size (Memory.write m a v) = true := by
  simp only [Memory.ok, Bool.and_eq_true] at h ⊢
  exact ⟨Memory.wf_write m a v h.1, Memory.within_write m size a v h.2 ha⟩

theorem Memory.wf_of_ok (size : Nat) (m : Memory) (h : Memory.ok size m = true) : Memory.wf m = true := by
  simp only [Memory.ok, Bool.and_eq_true] at h
  exact h.1

/-- Any listed contents give a canonical store of the size. -/
theorem Memory.ok_ofCells (size : Nat) (cells : List Host.Cell) : Memory.ok size (Memory.ofCells size cells) = true := by
  induction cells with
  | nil => rfl
  | cons c cells ih =>
    obtain ⟨k, v⟩ := c
    unfold Memory.ofCells
    split
    · rename_i hk
      exact Memory.ok_write size _ k v ih hk
    · exact ih

theorem Memory.ext_from (m n : Memory) (lo : Nat) (hm : Memory.wfFrom lo m = true) (hn : Memory.wfFrom lo n = true)
    (h : ∀ a, Memory.read m a = Memory.read n a) : m = n := by
  induction m generalizing n lo with
  | nil =>
    cases n with
    | nil => rfl
    | cons c n =>
      obtain ⟨k, v⟩ := c
      simp only [Memory.wfFrom, Bool.and_eq_true, bne_iff_ne] at hn
      have := h k
      simp only [Memory.read, if_true] at this
      exact absurd this.symm hn.1.2
  | cons c m ih =>
    obtain ⟨k, v⟩ := c
    cases n with
    | nil =>
      simp only [Memory.wfFrom, Bool.and_eq_true, bne_iff_ne] at hm
      have := h k
      simp only [Memory.read, if_true] at this
      exact absurd this hm.1.2
    | cons d n =>
      obtain ⟨j, w⟩ := d
      simp only [Memory.wfFrom, Bool.and_eq_true, bne_iff_ne, decide_eq_true_eq] at hm hn
      have hkj : k = j := by
        rcases Nat.lt_trichotomy k j with hlt | heq | hgt
        · have := h k
          have hne : j ≠ k := by omega
          simp only [Memory.read, if_true, hne, if_false] at this
          rw [Memory.read_below n (j + 1) k hn.2 (by omega)] at this
          exact absurd this hm.1.2
        · exact heq
        · have := h j
          have hne : k ≠ j := by omega
          simp only [Memory.read, if_true, hne, if_false] at this
          rw [Memory.read_below m (k + 1) j hm.2 (by omega)] at this
          exact absurd this.symm hn.1.2
      subst hkj
      have hvw : v = w := by simpa [Memory.read] using h k
      subst hvw
      rw [ih n (k + 1) hm.2 hn.2 fun a => ?_]
      by_cases hak : k = a
      · subst hak
        rw [Memory.read_below m (k + 1) k hm.2 (by omega), Memory.read_below n (k + 1) k hn.2 (by omega)]
      · simpa [Memory.read, hak] using h a

/-- Two canonical stores that read alike are the same list. -/
theorem Memory.ext_of_wf (m n : Memory) (hm : Memory.wf m = true) (hn : Memory.wf n = true)
    (h : ∀ a, Memory.read m a = Memory.read n a) : m = n := Memory.ext_from m n 0 hm hn h

/-- Of two writes at one offset the last counts. -/
theorem Memory.write_write (m : Memory) (a : Nat) (v w : Byte) (h : Memory.wf m = true) :
    Memory.write (Memory.write m a v) a w = Memory.write m a w := by
  have hv := Memory.wf_write m a v h
  refine Memory.ext_of_wf _ _ (Memory.wf_write _ a w hv) (Memory.wf_write m a w h) fun b => ?_
  rw [Memory.read_write _ a b w hv, Memory.read_write m a b v h, Memory.read_write m a b w h]
  split <;> rfl

end Sys2Proof.Machine
end

