-- ==== Sys2Proof/Laws/State.lean ====
section
/-! SUPPORT. The fields of the state after each update of `Ops`, `Operands` and `Flags`: one lemma per field an update
leaves alone, and what it leaves in the fields it writes. -/

namespace Sys2Proof.Machine

/-! ### `setReg` -/

@[simp] theorem setReg_f (s : State) (r : Reg8) (v : Byte) :
    (s.setReg r v).f = s.f := by cases r <;> rfl

@[simp] theorem setReg_sp (s : State) (r : Reg8) (v : Byte) :
    (s.setReg r v).sp = s.sp := by cases r <;> rfl

@[simp] theorem setReg_pc (s : State) (r : Reg8) (v : Byte) :
    (s.setReg r v).pc = s.pc := by cases r <;> rfl

@[simp] theorem setReg_ime (s : State) (r : Reg8) (v : Byte) :
    (s.setReg r v).ime = s.ime := by cases r <;> rfl

@[simp] theorem setReg_mode (s : State) (r : Reg8) (v : Byte) :
    (s.setReg r v).mode = s.mode := by cases r <;> rfl

@[simp] theorem setReg_imePending (s : State) (r : Reg8) (v : Byte) :
    (s.setReg r v).imePending = s.imePending := by cases r <;> rfl

@[simp] theorem setReg_haltBug (s : State) (r : Reg8) (v : Byte) :
    (s.setReg r v).haltBug = s.haltBug := by cases r <;> rfl

@[simp] theorem setReg_bus (s : State) (r : Reg8) (v : Byte) :
    (s.setReg r v).bus = s.bus := by cases r <;> rfl

@[simp] theorem setReg_baseline (s : State) (r : Reg8) (v : Byte) :
    (s.setReg r v).baseline = s.baseline := by cases r <;> rfl

@[simp] theorem setReg_cycles (s : State) (r : Reg8) (v : Byte) :
    (s.setReg r v).cycles = s.cycles := by cases r <;> rfl

@[simp] theorem setReg_inputs (s : State) (r : Reg8) (v : Byte) :
    (s.setReg r v).inputs = s.inputs := by cases r <;> rfl

/-! ### `setF` -/

@[simp] theorem setF_a (s : State) (v : Byte) :
    (s.setF v).a = s.a := rfl

@[simp] theorem setF_b (s : State) (v : Byte) :
    (s.setF v).b = s.b := rfl

@[simp] theorem setF_c (s : State) (v : Byte) :
    (s.setF v).c = s.c := rfl

@[simp] theorem setF_d (s : State) (v : Byte) :
    (s.setF v).d = s.d := rfl

@[simp] theorem setF_e (s : State) (v : Byte) :
    (s.setF v).e = s.e := rfl

@[simp] theorem setF_h (s : State) (v : Byte) :
    (s.setF v).h = s.h := rfl

@[simp] theorem setF_l (s : State) (v : Byte) :
    (s.setF v).l = s.l := rfl

@[simp] theorem setF_sp (s : State) (v : Byte) :
    (s.setF v).sp = s.sp := rfl

@[simp] theorem setF_pc (s : State) (v : Byte) :
    (s.setF v).pc = s.pc := rfl

@[simp] theorem setF_ime (s : State) (v : Byte) :
    (s.setF v).ime = s.ime := rfl

@[simp] theorem setF_mode (s : State) (v : Byte) :
    (s.setF v).mode = s.mode := rfl

@[simp] theorem setF_imePending (s : State) (v : Byte) :
    (s.setF v).imePending = s.imePending := rfl

@[simp] theorem setF_haltBug (s : State) (v : Byte) :
    (s.setF v).haltBug = s.haltBug := rfl

@[simp] theorem setF_bus (s : State) (v : Byte) :
    (s.setF v).bus = s.bus := rfl

@[simp] theorem setF_baseline (s : State) (v : Byte) :
    (s.setF v).baseline = s.baseline := rfl

@[simp] theorem setF_cycles (s : State) (v : Byte) :
    (s.setF v).cycles = s.cycles := rfl

@[simp] theorem setF_inputs (s : State) (v : Byte) :
    (s.setF v).inputs = s.inputs := rfl

/-! ### `setFlags` -/

@[simp] theorem setFlags_a (s : State) (z n h c : Bool) :
    (s.setFlags z n h c).a = s.a := rfl

@[simp] theorem setFlags_b (s : State) (z n h c : Bool) :
    (s.setFlags z n h c).b = s.b := rfl

@[simp] theorem setFlags_c (s : State) (z n h c : Bool) :
    (s.setFlags z n h c).c = s.c := rfl

@[simp] theorem setFlags_d (s : State) (z n h c : Bool) :
    (s.setFlags z n h c).d = s.d := rfl

@[simp] theorem setFlags_e (s : State) (z n h c : Bool) :
    (s.setFlags z n h c).e = s.e := rfl

@[simp] theorem setFlags_h (s : State) (z n h c : Bool) :
    (s.setFlags z n h c).h = s.h := rfl

@[simp] theorem setFlags_l (s : State) (z n h c : Bool) :
    (s.setFlags z n h c).l = s.l := rfl

@[simp] theorem setFlags_sp (s : State) (z n h c : Bool) :
    (s.setFlags z n h c).sp = s.sp := rfl

@[simp] theorem setFlags_pc (s : State) (z n h c : Bool) :
    (s.setFlags z n h c).pc = s.pc := rfl

@[simp] theorem setFlags_ime (s : State) (z n h c : Bool) :
    (s.setFlags z n h c).ime = s.ime := rfl

@[simp] theorem setFlags_mode (s : State) (z n h c : Bool) :
    (s.setFlags z n h c).mode = s.mode := rfl

@[simp] theorem setFlags_imePending (s : State) (z n h c : Bool) :
    (s.setFlags z n h c).imePending = s.imePending := rfl

@[simp] theorem setFlags_haltBug (s : State) (z n h c : Bool) :
    (s.setFlags z n h c).haltBug = s.haltBug := rfl

@[simp] theorem setFlags_bus (s : State) (z n h c : Bool) :
    (s.setFlags z n h c).bus = s.bus := rfl

@[simp] theorem setFlags_baseline (s : State) (z n h c : Bool) :
    (s.setFlags z n h c).baseline = s.baseline := rfl

@[simp] theorem setFlags_cycles (s : State) (z n h c : Bool) :
    (s.setFlags z n h c).cycles = s.cycles := rfl

@[simp] theorem setFlags_inputs (s : State) (z n h c : Bool) :
    (s.setFlags z n h c).inputs = s.inputs := rfl

/-! ### `setHl` -/

@[simp] theorem setHl_a (s : State) (v : Word) :
    (s.setHl v).a = s.a := rfl

@[simp] theorem setHl_f (s : State) (v : Word) :
    (s.setHl v).f = s.f := rfl

@[simp] theorem setHl_b (s : State) (v : Word) :
    (s.setHl v).b = s.b := rfl

@[simp] theorem setHl_c (s : State) (v : Word) :
    (s.setHl v).c = s.c := rfl

@[simp] theorem setHl_d (s : State) (v : Word) :
    (s.setHl v).d = s.d := rfl

@[simp] theorem setHl_e (s : State) (v : Word) :
    (s.setHl v).e = s.e := rfl

@[simp] theorem setHl_sp (s : State) (v : Word) :
    (s.setHl v).sp = s.sp := rfl

@[simp] theorem setHl_pc (s : State) (v : Word) :
    (s.setHl v).pc = s.pc := rfl

@[simp] theorem setHl_ime (s : State) (v : Word) :
    (s.setHl v).ime = s.ime := rfl

@[simp] theorem setHl_mode (s : State) (v : Word) :
    (s.setHl v).mode = s.mode := rfl

@[simp] theorem setHl_imePending (s : State) (v : Word) :
    (s.setHl v).imePending = s.imePending := rfl

@[simp] theorem setHl_haltBug (s : State) (v : Word) :
    (s.setHl v).haltBug = s.haltBug := rfl

@[simp] theorem setHl_bus (s : State) (v : Word) :
    (s.setHl v).bus = s.bus := rfl

@[simp] theorem setHl_baseline (s : State) (v : Word) :
    (s.setHl v).baseline = s.baseline := rfl

@[simp] theorem setHl_cycles (s : State) (v : Word) :
    (s.setHl v).cycles = s.cycles := rfl

@[simp] theorem setHl_inputs (s : State) (v : Word) :
    (s.setHl v).inputs = s.inputs := rfl

/-! ### `setPc` -/

@[simp] theorem setPc_a (s : State) (v : Word) :
    (s.setPc v).a = s.a := rfl

@[simp] theorem setPc_f (s : State) (v : Word) :
    (s.setPc v).f = s.f := rfl

@[simp] theorem setPc_b (s : State) (v : Word) :
    (s.setPc v).b = s.b := rfl

@[simp] theorem setPc_c (s : State) (v : Word) :
    (s.setPc v).c = s.c := rfl

@[simp] theorem setPc_d (s : State) (v : Word) :
    (s.setPc v).d = s.d := rfl

@[simp] theorem setPc_e (s : State) (v : Word) :
    (s.setPc v).e = s.e := rfl

@[simp] theorem setPc_h (s : State) (v : Word) :
    (s.setPc v).h = s.h := rfl

@[simp] theorem setPc_l (s : State) (v : Word) :
    (s.setPc v).l = s.l := rfl

@[simp] theorem setPc_sp (s : State) (v : Word) :
    (s.setPc v).sp = s.sp := rfl

@[simp] theorem setPc_ime (s : State) (v : Word) :
    (s.setPc v).ime = s.ime := rfl

@[simp] theorem setPc_mode (s : State) (v : Word) :
    (s.setPc v).mode = s.mode := rfl

@[simp] theorem setPc_imePending (s : State) (v : Word) :
    (s.setPc v).imePending = s.imePending := rfl

@[simp] theorem setPc_haltBug (s : State) (v : Word) :
    (s.setPc v).haltBug = s.haltBug := rfl

@[simp] theorem setPc_bus (s : State) (v : Word) :
    (s.setPc v).bus = s.bus := rfl

@[simp] theorem setPc_baseline (s : State) (v : Word) :
    (s.setPc v).baseline = s.baseline := rfl

@[simp] theorem setPc_cycles (s : State) (v : Word) :
    (s.setPc v).cycles = s.cycles := rfl

@[simp] theorem setPc_inputs (s : State) (v : Word) :
    (s.setPc v).inputs = s.inputs := rfl

/-! ### `setCycles` -/

@[simp] theorem setCycles_a (s : State) (n : Nat) :
    (s.setCycles n).a = s.a := rfl

@[simp] theorem setCycles_f (s : State) (n : Nat) :
    (s.setCycles n).f = s.f := rfl

@[simp] theorem setCycles_b (s : State) (n : Nat) :
    (s.setCycles n).b = s.b := rfl

@[simp] theorem setCycles_c (s : State) (n : Nat) :
    (s.setCycles n).c = s.c := rfl

@[simp] theorem setCycles_d (s : State) (n : Nat) :
    (s.setCycles n).d = s.d := rfl

@[simp] theorem setCycles_e (s : State) (n : Nat) :
    (s.setCycles n).e = s.e := rfl

@[simp] theorem setCycles_h (s : State) (n : Nat) :
    (s.setCycles n).h = s.h := rfl

@[simp] theorem setCycles_l (s : State) (n : Nat) :
    (s.setCycles n).l = s.l := rfl

@[simp] theorem setCycles_sp (s : State) (n : Nat) :
    (s.setCycles n).sp = s.sp := rfl

@[simp] theorem setCycles_pc (s : State) (n : Nat) :
    (s.setCycles n).pc = s.pc := rfl

@[simp] theorem setCycles_ime (s : State) (n : Nat) :
    (s.setCycles n).ime = s.ime := rfl

@[simp] theorem setCycles_mode (s : State) (n : Nat) :
    (s.setCycles n).mode = s.mode := rfl

@[simp] theorem setCycles_imePending (s : State) (n : Nat) :
    (s.setCycles n).imePending = s.imePending := rfl

@[simp] theorem setCycles_haltBug (s : State) (n : Nat) :
    (s.setCycles n).haltBug = s.haltBug := rfl

@[simp] theorem setCycles_bus (s : State) (n : Nat) :
    (s.setCycles n).bus = s.bus := rfl

@[simp] theorem setCycles_baseline (s : State) (n : Nat) :
    (s.setCycles n).baseline = s.baseline := rfl

@[simp] theorem setCycles_inputs (s : State) (n : Nat) :
    (s.setCycles n).inputs = s.inputs := rfl

/-! ### `setPair` -/

@[simp] theorem setPair_a (s : State) (p : Pair) (v : Word) :
    (s.setPair p v).a = s.a := by cases p <;> rfl

@[simp] theorem setPair_f (s : State) (p : Pair) (v : Word) :
    (s.setPair p v).f = s.f := by cases p <;> rfl

@[simp] theorem setPair_pc (s : State) (p : Pair) (v : Word) :
    (s.setPair p v).pc = s.pc := by cases p <;> rfl

@[simp] theorem setPair_ime (s : State) (p : Pair) (v : Word) :
    (s.setPair p v).ime = s.ime := by cases p <;> rfl

@[simp] theorem setPair_mode (s : State) (p : Pair) (v : Word) :
    (s.setPair p v).mode = s.mode := by cases p <;> rfl

@[simp] theorem setPair_imePending (s : State) (p : Pair) (v : Word) :
    (s.setPair p v).imePending = s.imePending := by cases p <;> rfl

@[simp] theorem setPair_haltBug (s : State) (p : Pair) (v : Word) :
    (s.setPair p v).haltBug = s.haltBug := by cases p <;> rfl

@[simp] theorem setPair_bus (s : State) (p : Pair) (v : Word) :
    (s.setPair p v).bus = s.bus := by cases p <;> rfl

@[simp] theorem setPair_baseline (s : State) (p : Pair) (v : Word) :
    (s.setPair p v).baseline = s.baseline := by cases p <;> rfl

@[simp] theorem setPair_cycles (s : State) (p : Pair) (v : Word) :
    (s.setPair p v).cycles = s.cycles := by cases p <;> rfl

@[simp] theorem setPair_inputs (s : State) (p : Pair) (v : Word) :
    (s.setPair p v).inputs = s.inputs := by cases p <;> rfl

/-! ### `setStackPair` -/

@[simp] theorem setStackPair_sp (s : State) (q : StackPair) (v : Word) :
    (s.setStackPair q v).sp = s.sp := by cases q <;> rfl

@[simp] theorem setStackPair_pc (s : State) (q : StackPair) (v : Word) :
    (s.setStackPair q v).pc = s.pc := by cases q <;> rfl

@[simp] theorem setStackPair_ime (s : State) (q : StackPair) (v : Word) :
    (s.setStackPair q v).ime = s.ime := by cases q <;> rfl

@[simp] theorem setStackPair_mode (s : State) (q : StackPair) (v : Word) :
    (s.setStackPair q v).mode = s.mode := by cases q <;> rfl

@[simp] theorem setStackPair_imePending (s : State) (q : StackPair) (v : Word) :
    (s.setStackPair q v).imePending = s.imePending := by cases q <;> rfl

@[simp] theorem setStackPair_haltBug (s : State) (q : StackPair) (v : Word) :
    (s.setStackPair q v).haltBug = s.haltBug := by cases q <;> rfl

@[simp] theorem setStackPair_bus (s : State) (q : StackPair) (v : Word) :
    (s.setStackPair q v).bus = s.bus := by cases q <;> rfl

@[simp] theorem setStackPair_baseline (s : State) (q : StackPair) (v : Word) :
    (s.setStackPair q v).baseline = s.baseline := by cases q <;> rfl

@[simp] theorem setStackPair_cycles (s : State) (q : StackPair) (v : Word) :
    (s.setStackPair q v).cycles = s.cycles := by cases q <;> rfl

@[simp] theorem setStackPair_inputs (s : State) (q : StackPair) (v : Word) :
    (s.setStackPair q v).inputs = s.inputs := by cases q <;> rfl

/-! ### `indirectUpdate` -/

@[simp] theorem indirectUpdate_a (s : State) (m : Indirect) :
    (s.indirectUpdate m).a = s.a := by cases m <;> rfl

@[simp] theorem indirectUpdate_f (s : State) (m : Indirect) :
    (s.indirectUpdate m).f = s.f := by cases m <;> rfl

@[simp] theorem indirectUpdate_b (s : State) (m : Indirect) :
    (s.indirectUpdate m).b = s.b := by cases m <;> rfl

@[simp] theorem indirectUpdate_c (s : State) (m : Indirect) :
    (s.indirectUpdate m).c = s.c := by cases m <;> rfl

@[simp] theorem indirectUpdate_d (s : State) (m : Indirect) :
    (s.indirectUpdate m).d = s.d := by cases m <;> rfl

@[simp] theorem indirectUpdate_e (s : State) (m : Indirect) :
    (s.indirectUpdate m).e = s.e := by cases m <;> rfl

@[simp] theorem indirectUpdate_sp (s : State) (m : Indirect) :
    (s.indirectUpdate m).sp = s.sp := by cases m <;> rfl

@[simp] theorem indirectUpdate_pc (s : State) (m : Indirect) :
    (s.indirectUpdate m).pc = s.pc := by cases m <;> rfl

@[simp] theorem indirectUpdate_ime (s : State) (m : Indirect) :
    (s.indirectUpdate m).ime = s.ime := by cases m <;> rfl

@[simp] theorem indirectUpdate_mode (s : State) (m : Indirect) :
    (s.indirectUpdate m).mode = s.mode := by cases m <;> rfl

@[simp] theorem indirectUpdate_imePending (s : State) (m : Indirect) :
    (s.indirectUpdate m).imePending = s.imePending := by cases m <;> rfl

@[simp] theorem indirectUpdate_haltBug (s : State) (m : Indirect) :
    (s.indirectUpdate m).haltBug = s.haltBug := by cases m <;> rfl

@[simp] theorem indirectUpdate_bus (s : State) (m : Indirect) :
    (s.indirectUpdate m).bus = s.bus := by cases m <;> rfl

@[simp] theorem indirectUpdate_baseline (s : State) (m : Indirect) :
    (s.indirectUpdate m).baseline = s.baseline := by cases m <;> rfl

@[simp] theorem indirectUpdate_cycles (s : State) (m : Indirect) :
    (s.indirectUpdate m).cycles = s.cycles := by cases m <;> rfl

@[simp] theorem indirectUpdate_inputs (s : State) (m : Indirect) :
    (s.indirectUpdate m).inputs = s.inputs := by cases m <;> rfl

/-! ### `busWrite` -/

@[simp] theorem busWrite_a (s : State) (a : Word) (v : Byte) :
    (s.busWrite a v).a = s.a := rfl

@[simp] theorem busWrite_f (s : State) (a : Word) (v : Byte) :
    (s.busWrite a v).f = s.f := rfl

@[simp] theorem busWrite_b (s : State) (a : Word) (v : Byte) :
    (s.busWrite a v).b = s.b := rfl

@[simp] theorem busWrite_c (s : State) (a : Word) (v : Byte) :
    (s.busWrite a v).c = s.c := rfl

@[simp] theorem busWrite_d (s : State) (a : Word) (v : Byte) :
    (s.busWrite a v).d = s.d := rfl

@[simp] theorem busWrite_e (s : State) (a : Word) (v : Byte) :
    (s.busWrite a v).e = s.e := rfl

@[simp] theorem busWrite_h (s : State) (a : Word) (v : Byte) :
    (s.busWrite a v).h = s.h := rfl

@[simp] theorem busWrite_l (s : State) (a : Word) (v : Byte) :
    (s.busWrite a v).l = s.l := rfl

@[simp] theorem busWrite_sp (s : State) (a : Word) (v : Byte) :
    (s.busWrite a v).sp = s.sp := rfl

@[simp] theorem busWrite_pc (s : State) (a : Word) (v : Byte) :
    (s.busWrite a v).pc = s.pc := rfl

@[simp] theorem busWrite_ime (s : State) (a : Word) (v : Byte) :
    (s.busWrite a v).ime = s.ime := rfl

@[simp] theorem busWrite_mode (s : State) (a : Word) (v : Byte) :
    (s.busWrite a v).mode = s.mode := rfl

@[simp] theorem busWrite_imePending (s : State) (a : Word) (v : Byte) :
    (s.busWrite a v).imePending = s.imePending := rfl

@[simp] theorem busWrite_haltBug (s : State) (a : Word) (v : Byte) :
    (s.busWrite a v).haltBug = s.haltBug := rfl

@[simp] theorem busWrite_baseline (s : State) (a : Word) (v : Byte) :
    (s.busWrite a v).baseline = s.baseline := rfl

@[simp] theorem busWrite_cycles (s : State) (a : Word) (v : Byte) :
    (s.busWrite a v).cycles = s.cycles := rfl

@[simp] theorem busWrite_inputs (s : State) (a : Word) (v : Byte) :
    (s.busWrite a v).inputs = s.inputs := rfl

/-! ### `write8` -/

@[simp] theorem write8_f (s : State) (o : Opnd) (v : Byte) :
    (s.write8 o v).f = s.f := by
  cases o <;> simp [State.write8]

@[simp] theorem write8_sp (s : State) (o : Opnd) (v : Byte) :
    (s.write8 o v).sp = s.sp := by
  cases o <;> simp [State.write8]

@[simp] theorem write8_pc (s : State) (o : Opnd) (v : Byte) :
    (s.write8 o v).pc = s.pc := by
  cases o <;> simp [State.write8]

@[simp] theorem write8_ime (s : State) (o : Opnd) (v : Byte) :
    (s.write8 o v).ime = s.ime := by
  cases o <;> simp [State.write8]

@[simp] theorem write8_mode (s : State) (o : Opnd) (v : Byte) :
    (s.write8 o v).mode = s.mode := by
  cases o <;> simp [State.write8]

@[simp] theorem write8_imePending (s : State) (o : Opnd) (v : Byte) :
    (s.write8 o v).imePending = s.imePending := by
  cases o <;> simp [State.write8]

@[simp] theorem write8_haltBug (s : State) (o : Opnd) (v : Byte) :
    (s.write8 o v).haltBug = s.haltBug := by
  cases o <;> simp [State.write8]

@[simp] theorem write8_baseline (s : State) (o : Opnd) (v : Byte) :
    (s.write8 o v).baseline = s.baseline := by
  cases o <;> simp [State.write8]

@[simp] theorem write8_cycles (s : State) (o : Opnd) (v : Byte) :
    (s.write8 o v).cycles = s.cycles := by
  cases o <;> simp [State.write8]

@[simp] theorem write8_inputs (s : State) (o : Opnd) (v : Byte) :
    (s.write8 o v).inputs = s.inputs := by
  cases o <;> simp [State.write8]

/-! ### `busWrite16` -/

@[simp] theorem busWrite16_a (s : State) (a v : Word) :
    (s.busWrite16 a v).a = s.a := rfl

@[simp] theorem busWrite16_f (s : State) (a v : Word) :
    (s.busWrite16 a v).f = s.f := rfl

@[simp] theorem busWrite16_b (s : State) (a v : Word) :
    (s.busWrite16 a v).b = s.b := rfl

@[simp] theorem busWrite16_c (s : State) (a v : Word) :
    (s.busWrite16 a v).c = s.c := rfl

@[simp] theorem busWrite16_d (s : State) (a v : Word) :
    (s.busWrite16 a v).d = s.d := rfl

@[simp] theorem busWrite16_e (s : State) (a v : Word) :
    (s.busWrite16 a v).e = s.e := rfl

@[simp] theorem busWrite16_h (s : State) (a v : Word) :
    (s.busWrite16 a v).h = s.h := rfl

@[simp] theorem busWrite16_l (s : State) (a v : Word) :
    (s.busWrite16 a v).l = s.l := rfl

@[simp] theorem busWrite16_sp (s : State) (a v : Word) :
    (s.busWrite16 a v).sp = s.sp := rfl

@[simp] theorem busWrite16_pc (s : State) (a v : Word) :
    (s.busWrite16 a v).pc = s.pc := rfl

@[simp] theorem busWrite16_ime (s : State) (a v : Word) :
    (s.busWrite16 a v).ime = s.ime := rfl

@[simp] theorem busWrite16_mode (s : State) (a v : Word) :
    (s.busWrite16 a v).mode = s.mode := rfl

@[simp] theorem busWrite16_imePending (s : State) (a v : Word) :
    (s.busWrite16 a v).imePending = s.imePending := rfl

@[simp] theorem busWrite16_haltBug (s : State) (a v : Word) :
    (s.busWrite16 a v).haltBug = s.haltBug := rfl

@[simp] theorem busWrite16_baseline (s : State) (a v : Word) :
    (s.busWrite16 a v).baseline = s.baseline := rfl

@[simp] theorem busWrite16_cycles (s : State) (a v : Word) :
    (s.busWrite16 a v).cycles = s.cycles := rfl

@[simp] theorem busWrite16_inputs (s : State) (a v : Word) :
    (s.busWrite16 a v).inputs = s.inputs := rfl

/-! ### `push16` -/

@[simp] theorem push16_a (s : State) (v : Word) :
    (s.push16 v).a = s.a := rfl

@[simp] theorem push16_f (s : State) (v : Word) :
    (s.push16 v).f = s.f := rfl

@[simp] theorem push16_b (s : State) (v : Word) :
    (s.push16 v).b = s.b := rfl

@[simp] theorem push16_c (s : State) (v : Word) :
    (s.push16 v).c = s.c := rfl

@[simp] theorem push16_d (s : State) (v : Word) :
    (s.push16 v).d = s.d := rfl

@[simp] theorem push16_e (s : State) (v : Word) :
    (s.push16 v).e = s.e := rfl

@[simp] theorem push16_h (s : State) (v : Word) :
    (s.push16 v).h = s.h := rfl

@[simp] theorem push16_l (s : State) (v : Word) :
    (s.push16 v).l = s.l := rfl

@[simp] theorem push16_pc (s : State) (v : Word) :
    (s.push16 v).pc = s.pc := rfl

@[simp] theorem push16_ime (s : State) (v : Word) :
    (s.push16 v).ime = s.ime := rfl

@[simp] theorem push16_mode (s : State) (v : Word) :
    (s.push16 v).mode = s.mode := rfl

@[simp] theorem push16_imePending (s : State) (v : Word) :
    (s.push16 v).imePending = s.imePending := rfl

@[simp] theorem push16_haltBug (s : State) (v : Word) :
    (s.push16 v).haltBug = s.haltBug := rfl

@[simp] theorem push16_baseline (s : State) (v : Word) :
    (s.push16 v).baseline = s.baseline := rfl

@[simp] theorem push16_cycles (s : State) (v : Word) :
    (s.push16 v).cycles = s.cycles := rfl

@[simp] theorem push16_inputs (s : State) (v : Word) :
    (s.push16 v).inputs = s.inputs := rfl

/-! ### `dispatch` -/

@[simp] theorem dispatch_a (s : State) (i : Source) :
    (s.dispatch i).a = s.a := rfl

@[simp] theorem dispatch_f (s : State) (i : Source) :
    (s.dispatch i).f = s.f := rfl

@[simp] theorem dispatch_b (s : State) (i : Source) :
    (s.dispatch i).b = s.b := rfl

@[simp] theorem dispatch_c (s : State) (i : Source) :
    (s.dispatch i).c = s.c := rfl

@[simp] theorem dispatch_d (s : State) (i : Source) :
    (s.dispatch i).d = s.d := rfl

@[simp] theorem dispatch_e (s : State) (i : Source) :
    (s.dispatch i).e = s.e := rfl

@[simp] theorem dispatch_h (s : State) (i : Source) :
    (s.dispatch i).h = s.h := rfl

@[simp] theorem dispatch_l (s : State) (i : Source) :
    (s.dispatch i).l = s.l := rfl

@[simp] theorem dispatch_mode (s : State) (i : Source) :
    (s.dispatch i).mode = s.mode := rfl

@[simp] theorem dispatch_baseline (s : State) (i : Source) :
    (s.dispatch i).baseline = s.baseline := rfl

@[simp] theorem dispatch_cycles (s : State) (i : Source) :
    (s.dispatch i).cycles = s.cycles := rfl

@[simp] theorem dispatch_inputs (s : State) (i : Source) :
    (s.dispatch i).inputs = s.inputs := rfl

/-! ### `fetch8` -/

@[simp] theorem fetch8_a (s : State) :
    s.fetch8.2.a = s.a := rfl

@[simp] theorem fetch8_f (s : State) :
    s.fetch8.2.f = s.f := rfl

@[simp] theorem fetch8_b (s : State) :
    s.fetch8.2.b = s.b := rfl

@[simp] theorem fetch8_c (s : State) :
    s.fetch8.2.c = s.c := rfl

@[simp] theorem fetch8_d (s : State) :
    s.fetch8.2.d = s.d := rfl

@[simp] theorem fetch8_e (s : State) :
    s.fetch8.2.e = s.e := rfl

@[simp] theorem fetch8_h (s : State) :
    s.fetch8.2.h = s.h := rfl

@[simp] theorem fetch8_l (s : State) :
    s.fetch8.2.l = s.l := rfl

@[simp] theorem fetch8_sp (s : State) :
    s.fetch8.2.sp = s.sp := rfl

@[simp] theorem fetch8_ime (s : State) :
    s.fetch8.2.ime = s.ime := rfl

@[simp] theorem fetch8_mode (s : State) :
    s.fetch8.2.mode = s.mode := rfl

@[simp] theorem fetch8_imePending (s : State) :
    s.fetch8.2.imePending = s.imePending := rfl

@[simp] theorem fetch8_haltBug (s : State) :
    s.fetch8.2.haltBug = s.haltBug := rfl

@[simp] theorem fetch8_bus (s : State) :
    s.fetch8.2.bus = s.bus := rfl

@[simp] theorem fetch8_baseline (s : State) :
    s.fetch8.2.baseline = s.baseline := rfl

@[simp] theorem fetch8_cycles (s : State) :
    s.fetch8.2.cycles = s.cycles := rfl

@[simp] theorem fetch8_inputs (s : State) :
    s.fetch8.2.inputs = s.inputs := rfl

/-! ### `pop16` -/

@[simp] theorem pop16_a (s : State) :
    s.pop16.2.a = s.a := rfl

@[simp] theorem pop16_f (s : State) :
    s.pop16.2.f = s.f := rfl

@[simp] theorem pop16_b (s : State) :
    s.pop16.2.b = s.b := rfl

@[simp] theorem pop16_c (s : State) :
    s.pop16.2.c = s.c := rfl

@[simp] theorem pop16_d (s : State) :
    s.pop16.2.d = s.d := rfl

@[simp] theorem pop16_e (s : State) :
    s.pop16.2.e = s.e := rfl

@[simp] theorem pop16_h (s : State) :
    s.pop16.2.h = s.h := rfl

@[simp] theorem pop16_l (s : State) :
    s.pop16.2.l = s.l := rfl

@[simp] theorem pop16_pc (s : State) :
    s.pop16.2.pc = s.pc := rfl

@[simp] theorem pop16_ime (s : State) :
    s.pop16.2.ime = s.ime := rfl

@[simp] theorem pop16_mode (s : State) :
    s.pop16.2.mode = s.mode := rfl

@[simp] theorem pop16_imePending (s : State) :
    s.pop16.2.imePending = s.imePending := rfl

@[simp] theorem pop16_haltBug (s : State) :
    s.pop16.2.haltBug = s.haltBug := rfl

@[simp] theorem pop16_bus (s : State) :
    s.pop16.2.bus = s.bus := rfl

@[simp] theorem pop16_baseline (s : State) :
    s.pop16.2.baseline = s.baseline := rfl

@[simp] theorem pop16_cycles (s : State) :
    s.pop16.2.cycles = s.cycles := rfl

@[simp] theorem pop16_inputs (s : State) :
    s.pop16.2.inputs = s.inputs := rfl

/-! ### `fetchOpcode` -/

@[simp] theorem fetchOpcode_a (s : State) :
    s.fetchOpcode.2.a = s.a := by
  unfold State.fetchOpcode
  split <;> rfl

@[simp] theorem fetchOpcode_f (s : State) :
    s.fetchOpcode.2.f = s.f := by
  unfold State.fetchOpcode
  split <;> rfl

@[simp] theorem fetchOpcode_b (s : State) :
    s.fetchOpcode.2.b = s.b := by
  unfold State.fetchOpcode
  split <;> rfl

@[simp] theorem fetchOpcode_c (s : State) :
    s.fetchOpcode.2.c = s.c := by
  unfold State.fetchOpcode
  split <;> rfl

@[simp] theorem fetchOpcode_d (s : State) :
    s.fetchOpcode.2.d = s.d := by
  unfold State.fetchOpcode
  split <;> rfl

@[simp] theorem fetchOpcode_e (s : State) :
    s.fetchOpcode.2.e = s.e := by
  unfold State.fetchOpcode
  split <;> rfl

@[simp] theorem fetchOpcode_h (s : State) :
    s.fetchOpcode.2.h = s.h := by
  unfold State.fetchOpcode
  split <;> rfl

@[simp] theorem fetchOpcode_l (s : State) :
    s.fetchOpcode.2.l = s.l := by
  unfold State.fetchOpcode
  split <;> rfl

@[simp] theorem fetchOpcode_sp (s : State) :
    s.fetchOpcode.2.sp = s.sp := by
  unfold State.fetchOpcode
  split <;> rfl

@[simp] theorem fetchOpcode_ime (s : State) :
    s.fetchOpcode.2.ime = s.ime := by
  unfold State.fetchOpcode
  split <;> rfl

@[simp] theorem fetchOpcode_mode (s : State) :
    s.fetchOpcode.2.mode = s.mode := by
  unfold State.fetchOpcode
  split <;> rfl

@[simp] theorem fetchOpcode_imePending (s : State) :
    s.fetchOpcode.2.imePending = s.imePending := by
  unfold State.fetchOpcode
  split <;> rfl

@[simp] theorem fetchOpcode_bus (s : State) :
    s.fetchOpcode.2.bus = s.bus := by
  unfold State.fetchOpcode
  split <;> rfl

@[simp] theorem fetchOpcode_baseline (s : State) :
    s.fetchOpcode.2.baseline = s.baseline := by
  unfold State.fetchOpcode
  split <;> rfl

@[simp] theorem fetchOpcode_cycles (s : State) :
    s.fetchOpcode.2.cycles = s.cycles := by
  unfold State.fetchOpcode
  split <;> rfl

@[simp] theorem fetchOpcode_inputs (s : State) :
    s.fetchOpcode.2.inputs = s.inputs := by
  unfold State.fetchOpcode
  split <;> rfl

/-! ### What an update leaves in what it writes -/

theorem reg_setReg (s : State) (r r' : Reg8) (v : Byte) :
    (s.setReg r v).reg r' = if r' = r then v else s.reg r' := by
  cases r <;> cases r' <;> rfl

@[simp] theorem setF_f (s : State) (v : Byte) : (s.setF v).f = v &&& 0xF0 := rfl

@[simp] theorem setPc_pc (s : State) (v : Word) : (s.setPc v).pc = v := rfl

@[simp] theorem setHl_h (s : State) (v : Word) : (s.setHl v).h = v.hiByte := rfl

@[simp] theorem setHl_l (s : State) (v : Word) : (s.setHl v).l = v.loByte := rfl

/-- A word is the join of its halves (R21, R65). -/
@[simp] theorem join_halves (v : Word) : Word.join v.hiByte v.loByte = v := by
  unfold Word.join Word.hiByte Word.loByte
  ext i hi
  simp only [BitVec.getElem_append, BitVec.getElem_extractLsb']
  split <;> simp_all [BitVec.getLsbD_eq_getElem]

@[simp] theorem hiByte_join (hi lo : Byte) : (Word.join hi lo).hiByte = hi := by
  unfold Word.join Word.hiByte
  ext i hlt
  simp only [BitVec.getElem_extractLsb', BitVec.getLsbD_append]
  simp [show ¬ 8 + i < 8 by omega, BitVec.getLsbD_eq_getElem hlt]

@[simp] theorem loByte_join (hi lo : Byte) : (Word.join hi lo).loByte = lo := by
  unfold Word.join Word.loByte
  ext i hlt
  simp only [BitVec.getElem_extractLsb', BitVec.getLsbD_append]
  simp only [Nat.zero_add, hlt, if_true, BitVec.getLsbD_eq_getElem hlt]

/-- Two bytes joined are 256 times the high one plus the low one (R21, R65). -/
theorem join_ofNat (hi lo : Byte) : BitVec.ofNat 16 (256 * hi.toNat + lo.toNat) = Word.join hi lo := by
  apply BitVec.eq_of_toNat_eq
  have h1 := hi.isLt
  have h2 := lo.isLt
  rw [Word.join, BitVec.toNat_append, Nat.shiftLeft_eq, BitVec.toNat_ofNat, Nat.mod_eq_of_lt (by omega),
    Nat.mul_comm hi.toNat, ← Nat.two_pow_add_eq_or_of_lt (by omega)]

/-- A high-page address is 0xFF00 plus the byte (R107). -/
theorem highPage_ofNat (n : Byte) : BitVec.ofNat 16 (0xFF00 + n.toNat) = n.highPage := by
  rw [Byte.highPage, ← join_ofNat]
  rfl

/-- Writing HL and reading it back (R21). -/
@[simp] theorem setHl_hl (s : State) (v : Word) : (s.setHl v).hl = v := by simp [State.hl]

/-- Writing a pair and reading it back (R21). -/
theorem pair_setPair (s : State) (p : Pair) (v : Word) : (s.setPair p v).pair p = v := by
  cases p <;> simp [State.setPair, State.pair, State.bc, State.de]

/-- PC after an opcode fetch without the halt bug (R291). -/
theorem fetchOpcode_pc (s : State) (h : s.haltBug = false) : s.fetchOpcode.2.pc = s.pc + 1 := by
  simp [State.fetchOpcode, h]

/-- No opcode fetch leaves the halt bug armed (R291). -/
@[simp] theorem fetchOpcode_haltBug (s : State) : s.fetchOpcode.2.haltBug = false := by
  cases h : s.haltBug <;> simp [State.fetchOpcode, h]

@[simp] theorem fetch8_pc (s : State) : s.fetch8.2.pc = s.pc + 1 := rfl

/-- A read of the bus is the bus's own read (R52). -/
theorem busRead_eq (s : State) (a : Word) : s.busRead a = s.bus.read a := rfl

@[simp] theorem busWrite_bus (s : State) (a : Word) (v : Byte) : (s.busWrite a v).bus = s.bus.write a v := rfl

/-- A push lowers SP by two (R150). -/
@[simp] theorem push16_sp (s : State) (v : Word) : (s.push16 v).sp = s.sp - 2 := by
  simp only [State.push16, State.busWrite]
  bv_omega

/-- A push as two bus writes: the high byte just below the old SP, then the low byte below it (R150). -/
theorem push16_eq (s : State) (v : Word) :
    s.push16 v = { (s.busWrite (s.sp - 1) v.hiByte).busWrite (s.sp - 2) v.loByte with sp := s.sp - 2 } := by
  have h : s.sp - 1 - 1 = s.sp - 2 := by bv_omega
  simp only [State.push16, State.busWrite, h]

/-- A pop raises SP by two (R151). -/
@[simp] theorem pop16_sp (s : State) : s.pop16.2.sp = s.sp + 2 := by
  simp only [State.pop16]
  bv_omega

/-- The word a pop returns (R151). -/
theorem pop16_val (s : State) : s.pop16.1 = Word.join (s.busRead (s.sp + 1)) (s.busRead s.sp) := rfl

/-- A pop: the word at the old SP, low byte first, and SP raised by two (R151). -/
theorem pop16_eq (s : State) :
    s.pop16 = (Word.join (s.busRead (s.sp + 1)) (s.busRead s.sp), { s with sp := s.sp + 2 }) := by
  have h : s.sp + 1 + 1 = s.sp + 2 := by bv_omega
  simp only [State.pop16, State.busRead, h]

/-- A return: PC from the stack, SP raised by two (R258). -/
theorem ret_eq (s : State) :
    s.ret = { s with pc := Word.join (s.busRead (s.sp + 1)) (s.busRead s.sp), sp := s.sp + 2 } := by
  rw [State.ret, pop16_eq]

/-- The only outcome of a finished instruction or tick. -/
theorem done_eq (n : Nat) (s : State) : done n s = .next { s with cycles := n } := rfl

/-- What the state after a finished instruction or tick is. -/
theorem done_inj (n : Nat) (s t : State) (h : done n s = .next t) : t = s.setCycles n :=
  (Host.Outcome.next.inj h).symm

end Sys2Proof.Machine
end

