-- ==== Sys2Proof/Laws/Bus.lean ====
section
/-! SUPPORT. The laws of the bus: which store an address reaches, the two registers at fixed addresses, and that a write
keeps the stores canonical and in bounds and the bank controller's registers in range. -/

namespace Sys2Proof.Machine

/-- The first address of a region (R51). -/
def Region.first : Region → Nat
  | .romFixed => 0x0000
  | .romSwitch => 0x4000
  | .vram => 0x8000
  | .xram => 0xA000
  | .wram => 0xC000
  | .echo => 0xE000
  | .oam => 0xFE00
  | .unusable => 0xFEA0
  | .io => 0xFF00
  | .hram => 0xFF80
  | .ie => 0xFFFF

/-- The last address of a region (R51). -/
def Region.last : Region → Nat
  | .romFixed => 0x3FFF
  | .romSwitch => 0x7FFF
  | .vram => 0x9FFF
  | .xram => 0xBFFF
  | .wram => 0xDFFF
  | .echo => 0xFDFF
  | .oam => 0xFE9F
  | .unusable => 0xFEFF
  | .io => 0xFF7F
  | .hram => 0xFFFE
  | .ie => 0xFFFF

/-- The numbers an address of each region lies between (R51). -/
theorem regionOf_bounds (a : Word) : (regionOf a).first ≤ a.toNat ∧ a.toNat ≤ (regionOf a).last := by
  have := a.isLt
  unfold regionOf
  repeat' split
  all_goals simp only [Region.first, Region.last]; omega

/-- An address between a region's bounds is in it (R51). -/
theorem regionOf_eq (a : Word) (r : Region) (h1 : r.first ≤ a.toNat) (h2 : a.toNat ≤ r.last) : regionOf a = r := by
  have hb := regionOf_bounds a
  cases hr : regionOf a <;> rw [hr] at hb <;> cases r <;>
    simp only [Region.first, Region.last] at hb h1 h2 <;> first | rfl | omega

@[simp] theorem busRead_ie (s : State) : s.busRead Config.ieAddr = s.bus.ie := rfl

@[simp] theorem busRead_if (s : State) : s.busRead Config.ifAddr = Memory.read s.bus.io 0x0F := rfl

/-! ### One lemma per region: what a read answers and what a write does (R52, R53) -/

theorem read_romFixed (u : Bus) (a : Word) (h : regionOf a = .romFixed) :
    u.read a = Memory.read u.cart.rom a.toNat := by
  simp only [Bus.read, h]

theorem read_romSwitch (u : Bus) (a : Word) (h : regionOf a = .romSwitch) :
    u.read a = Memory.read u.cart.rom (u.romOffset a) := by
  simp only [Bus.read, h]

theorem read_vram (u : Bus) (a : Word) (h : regionOf a = .vram) :
    u.read a = Memory.read u.vram (a.toNat - 0x8000) := by
  simp only [Bus.read, h]

theorem read_xram (u : Bus) (a : Word) (h : regionOf a = .xram) :
    u.read a = if u.ramOk then Memory.read u.xram (u.xramOffset a) else Config.fillOpenbus := by
  simp only [Bus.read, h]

theorem read_wram (u : Bus) (a : Word) (h : regionOf a = .wram) :
    u.read a = Memory.read u.wram (a.toNat - 0xC000) := by
  simp only [Bus.read, h]

theorem read_echo (u : Bus) (a : Word) (h : regionOf a = .echo) :
    u.read a = Memory.read u.wram (a.toNat - 0xE000) := by
  simp only [Bus.read, h]

theorem read_oam (u : Bus) (a : Word) (h : regionOf a = .oam) :
    u.read a = Memory.read u.oam (a.toNat - 0xFE00) := by
  simp only [Bus.read, h]

theorem read_unusable (u : Bus) (a : Word) (h : regionOf a = .unusable) :
    u.read a = Config.fillUnusable := by
  simp only [Bus.read, h]

theorem read_io (u : Bus) (a : Word) (h : regionOf a = .io) :
    u.read a = Memory.read u.io (a.toNat - 0xFF00) := by
  simp only [Bus.read, h]

theorem read_hram (u : Bus) (a : Word) (h : regionOf a = .hram) :
    u.read a = Memory.read u.hram (a.toNat - 0xFF80) := by
  simp only [Bus.read, h]

theorem read_ie (u : Bus) (a : Word) (h : regionOf a = .ie) :
    u.read a = u.ie := by
  simp only [Bus.read, h]

theorem write_romFixed (u : Bus) (a : Word) (v : Byte) (h : regionOf a = .romFixed) :
    u.write a v = { u with mbc := u.mbcControlWrite a v } := by
  simp only [Bus.write, h]

theorem write_romSwitch (u : Bus) (a : Word) (v : Byte) (h : regionOf a = .romSwitch) :
    u.write a v = { u with mbc := u.mbcControlWrite a v } := by
  simp only [Bus.write, h]

theorem write_vram (u : Bus) (a : Word) (v : Byte) (h : regionOf a = .vram) :
    u.write a v = { u with vram := Memory.write u.vram (a.toNat - 0x8000) v } := by
  simp only [Bus.write, h]

theorem write_xram (u : Bus) (a : Word) (v : Byte) (h : regionOf a = .xram) :
    u.write a v = if u.ramOk then { u with xram := Memory.write u.xram (u.xramOffset a) v } else u := by
  simp only [Bus.write, h]

theorem write_wram (u : Bus) (a : Word) (v : Byte) (h : regionOf a = .wram) :
    u.write a v = { u with wram := Memory.write u.wram (a.toNat - 0xC000) v } := by
  simp only [Bus.write, h]

theorem write_echo (u : Bus) (a : Word) (v : Byte) (h : regionOf a = .echo) :
    u.write a v = { u with wram := Memory.write u.wram (a.toNat - 0xE000) v } := by
  simp only [Bus.write, h]

theorem write_oam (u : Bus) (a : Word) (v : Byte) (h : regionOf a = .oam) :
    u.write a v = { u with oam := Memory.write u.oam (a.toNat - 0xFE00) v } := by
  simp only [Bus.write, h]

theorem write_unusable (u : Bus) (a : Word) (v : Byte) (h : regionOf a = .unusable) :
    u.write a v = u := by
  simp only [Bus.write, h]

theorem write_io (u : Bus) (a : Word) (v : Byte) (h : regionOf a = .io) :
    u.write a v = { u with io := Memory.write u.io (a.toNat - 0xFF00) v } := by
  simp only [Bus.write, h]

theorem write_hram (u : Bus) (a : Word) (v : Byte) (h : regionOf a = .hram) :
    u.write a v = { u with hram := Memory.write u.hram (a.toNat - 0xFF80) v } := by
  simp only [Bus.write, h]

theorem write_ie (u : Bus) (a : Word) (v : Byte) (h : regionOf a = .ie) :
    u.write a v = { u with ie := v } := by
  simp only [Bus.write, h]

/-- When external RAM answers (R80). -/
theorem ramOk_iff (u : Bus) :
    u.ramOk = true ↔ u.cart.kind ≠ .romOnly ∧ u.mbc.ramEnable = true ∧ 0 < u.cart.ramBanks.val := by
  simp [Bus.ramOk, and_assoc]

@[simp] theorem ramOk_setXram (u : Bus) (m : Memory) : ({ u with xram := m } : Bus).ramOk = u.ramOk := rfl

@[simp] theorem xramOffset_setXram (u : Bus) (m : Memory) (a : Word) : ({ u with xram := m } : Bus).xramOffset a = u.xramOffset a := rfl

/-- A control write made twice is made once. -/
theorem mbcControlWrite_twice (u : Bus) (a : Word) (v : Byte) :
    Bus.mbcControlWrite { u with mbc := u.mbcControlWrite a v } a v = u.mbcControlWrite a v := by
  simp only [Bus.mbcControlWrite]
  split
  · rfl
  · split
    · rfl
    · split
      · simp only [Bus.romBankWrite]
        cases u.cart.kind
        case mbc5 => simp only; split <;> rfl
        all_goals rfl
      · split
        · rfl
        · split <;> rfl

/-! ### What a write keeps -/

/-- `pending` from the two registers (R296). -/
theorem pending_eq (s : State) : s.pending = s.bus.ie &&& Memory.read s.bus.io 0x0F &&& 0x1F := rfl

/-- The ROM bank read from never lies beyond the cartridge (R74). -/
theorem effRomBank_le (u : Bus) : u.effRomBank ≤ u.cart.bankCount - 1 := Nat.min_le_right _ _

/-- There are at least two ROM banks (R10). -/
theorem two_le_bankCount (p : Cartridge) : 2 ≤ p.bankCount := by
  unfold Cartridge.bankCount
  rw [Nat.shiftLeft_eq]
  have := Nat.one_le_two_pow (n := p.sizeCode.val)
  omega

/-- External RAM that answers is reached inside its banks (R80). -/
theorem xramOffset_lt (u : Bus) (a : Word) (h : u.ramOk = true) (ha : a.toNat ≤ 0xBFFF) :
    u.xramOffset a < u.cart.ramBanks.val * Config.ramBankSize := by
  simp only [Bus.ramOk, Bool.and_eq_true, decide_eq_true_eq] at h
  have h1 : u.effRamBank ≤ u.cart.ramBanks.val - 1 := Nat.min_le_right _ _
  unfold Bus.xramOffset Config.ramBankSize
  omega

/-- A bank number with the width and the bank count applied is never 0, and fits both (R77, R78). -/
theorem coerceBank_spec (p : Cartridge) (width v : Byte) :
    1 ≤ (p.coerceBank width v).toNat ∧ (p.coerceBank width v).toNat < p.bankCount ∧
      (1 ≤ width.toNat → (p.coerceBank width v).toNat ≤ width.toNat) := by
  have hb := two_le_bankCount p
  unfold Cartridge.coerceBank
  simp only
  split
  · simp; omega
  · rename_i hne
    refine ⟨?_, ?_, ?_⟩
    · have : (v &&& width &&& BitVec.ofNat 8 (p.bankCount - 1)).toNat ≠ 0 := fun h => hne (BitVec.eq_of_toNat_eq h)
      omega
    · have h1 : (v &&& width &&& BitVec.ofNat 8 (p.bankCount - 1)).toNat ≤ (BitVec.ofNat 8 (p.bankCount - 1)).toNat := by
        rw [BitVec.toNat_and]; exact Nat.and_le_right
      have h2 : (BitVec.ofNat 8 (p.bankCount - 1)).toNat ≤ p.bankCount - 1 := by
        rw [BitVec.toNat_ofNat]; exact Nat.mod_le _ _
      omega
    · intro _
      rw [BitVec.toNat_and, BitVec.toNat_and]
      exact Nat.le_trans Nat.and_le_left Nat.and_le_right

/-- The bank count is a power of two, 2 to 512 (R10). -/
theorem bankCount_pow (p : Cartridge) : ∃ k, p.bankCount = 2 ^ k ∧ 1 ≤ k ∧ k ≤ 9 := by
  refine ⟨p.sizeCode.val + 1, ?_, by omega, by omega⟩
  unfold Cartridge.bankCount
  rw [Nat.shiftLeft_eq, Nat.pow_succ, Nat.mul_comm]

/-- The mask of a bank number to the bank count is the remainder (R77 to R79). -/
theorem and_bankCount (x : Nat) (p : Cartridge) : x &&& (p.bankCount - 1) = x % p.bankCount := by
  obtain ⟨k, hk, -, -⟩ := bankCount_pow p
  rw [hk, Nat.and_two_pow_sub_one_eq_mod]

/-- The bank number an MBC1 or MBC3 stores, in numbers (R77, R78). -/
theorem coerceBank_eq (p : Cartridge) (k : Nat) (hk : k ≤ 8) (v : Byte) :
    p.coerceBank (BitVec.ofNat 8 (2^k-1)) v =
      BitVec.ofNat 8 (if v.toNat % 2^k % p.bankCount = 0 then 1 else v.toNat % 2^k % p.bankCount) := by
  have e : v &&& BitVec.ofNat 8 (2^k-1) &&& BitVec.ofNat 8 (p.bankCount - 1) =
      BitVec.ofNat 8 (v.toNat % 2^k % p.bankCount) := by
    apply BitVec.eq_of_toNat_eq
    have hv := v.isLt
    have h1 : 2 ^ k - 1 < 256 := by
      have : 2 ^ k ≤ 2 ^ 8 := Nat.pow_le_pow_right (by omega) hk
      omega
    simp only [BitVec.toNat_and, BitVec.toNat_ofNat]
    rw [Nat.mod_eq_of_lt (a := 2^k-1) (by omega), Nat.and_two_pow_sub_one_eq_mod]
    obtain ⟨j, hj, h1, h9⟩ := bankCount_pow p
    have hlt : v.toNat % 2 ^ k < 2 ^ 8 := Nat.lt_of_le_of_lt (Nat.mod_le _ _) hv
    rw [hj, Nat.mod_eq_of_lt (a := v.toNat % 2 ^ k % 2 ^ j)
      (Nat.lt_of_le_of_lt (Nat.mod_le _ _) hlt)]
    rcases Nat.lt_or_ge j 9 with hlt9 | hge
    · have : 2 ^ j ≤ 2 ^ 8 := Nat.pow_le_pow_right (by omega) (by omega)
      have : 0 < 2 ^ j := Nat.two_pow_pos j
      rw [Nat.mod_eq_of_lt (a := 2^j-1) (by omega), Nat.and_two_pow_sub_one_eq_mod]
    · have : j = 9 := by omega
      subst this
      rw [show (2 ^ 9 - 1) % 2 ^ 8 = 2 ^ 8 - 1 from rfl, Nat.and_two_pow_sub_one_eq_mod,
        Nat.mod_eq_of_lt (b := 2 ^ 8) hlt]
      exact (Nat.mod_eq_of_lt (Nat.lt_trans hlt (by decide))).symm
  unfold Cartridge.coerceBank
  simp only [e]
  have hlt : v.toNat % 2 ^ k % p.bankCount < 256 :=
    Nat.lt_of_le_of_lt (Nat.mod_le _ _) (Nat.lt_of_le_of_lt (Nat.mod_le _ _) v.isLt)
  by_cases h : v.toNat % 2 ^ k % p.bankCount = 0
  · simp [h]
  · rw [if_neg h, if_neg]
    intro e'
    have := congrArg BitVec.toNat e'
    simp only [BitVec.toNat_ofNat] at this
    rw [Nat.mod_eq_of_lt hlt] at this
    exact h this

/-- A control write leaves the controller's registers in range (R73, R77 to R79). -/
theorem mbcControlWrite_ok (u : Bus) (a : Word) (v : Byte) (h : Mbc.ok u.cart u.mbc = true) :
    Mbc.ok u.cart (u.mbcControlWrite a v) = true := by
  have haux : ∀ x : Byte, (BitVec.setWidth 4 x &&& 3#4).toNat ≤ 3 := fun x => by
    rw [BitVec.toNat_and]; exact Nat.and_le_right
  have c1 := coerceBank_spec u.cart 0x1F v
  have c3 := coerceBank_spec u.cart 0x7F v
  unfold Bus.mbcControlWrite
  cases hk : u.cart.kind with
  | romOnly => simpa [hk] using h
  | mbc1 =>
    simp only [Mbc.ok, hk, Bool.and_eq_true, decide_eq_true_eq] at h
    simp only [hk, Bus.romBankWrite, auxOf]
    repeat' split
    all_goals simp_all [Mbc.ok]
  | mbc3 =>
    simp only [Mbc.ok, hk, Bool.and_eq_true, decide_eq_true_eq] at h
    simp only [hk, Bus.romBankWrite, auxOf]
    repeat' split
    all_goals simp_all [Mbc.ok]
  | mbc5 =>
    simp only [Mbc.ok, hk] at h
    simp only [hk, Bus.romBankWrite, auxOf]
    repeat' split
    all_goals simp_all [Mbc.ok]

/-- No bus write changes the cartridge (R33, R56). -/
@[simp] theorem write_cart (u : Bus) (a : Word) (v : Byte) : (u.write a v).cart = u.cart := by
  unfold Bus.write
  split <;> first | rfl | (split <;> rfl)

/-- A write at 8000 or above leaves the bank controller (R53). -/
theorem write_mbc (u : Bus) (a : Word) (v : Byte) (h : ¬ isControl a) : (u.write a v).mbc = u.mbc := by
  have hb := regionOf_bounds a
  unfold Bus.write
  cases hr : regionOf a <;> rw [hr] at hb <;> simp only [Region.first, Region.last] at hb ⊢
  case romFixed => omega
  case romSwitch => omega
  case xram => split <;> rfl

/-- A bus write keeps every store canonical and in bounds, and the controller's registers in range (R53). -/
theorem write_ok (u : Bus) (a : Word) (v : Byte) (h : u.ok) : (u.write a v).ok := by
  obtain ⟨h1, h2, h3, h4, h5, h6, h7, h8⟩ := h
  have hb := regionOf_bounds a
  have hm := mbcControlWrite_ok u a v h7
  unfold Bus.write
  cases hr : regionOf a <;> rw [hr] at hb <;> simp only [Region.first, Region.last] at hb ⊢
  case romFixed => exact ⟨h1, h2, h3, h4, h5, h6, hm, h8⟩
  case romSwitch => exact ⟨h1, h2, h3, h4, h5, h6, hm, h8⟩
  case vram => exact ⟨Memory.ok_write _ _ _ _ h1 (by omega), h2, h3, h4, h5, h6, h7, h8⟩
  case xram =>
    split
    · rename_i hx
      exact ⟨h1, h2, h3, h4, h5, Memory.ok_write _ _ _ _ h6 (xramOffset_lt u a hx hb.2), h7, h8⟩
    · exact ⟨h1, h2, h3, h4, h5, h6, h7, h8⟩
  case wram => exact ⟨h1, Memory.ok_write _ _ _ _ h2 (by omega), h3, h4, h5, h6, h7, h8⟩
  case echo => exact ⟨h1, Memory.ok_write _ _ _ _ h2 (by omega), h3, h4, h5, h6, h7, h8⟩
  case oam => exact ⟨h1, h2, Memory.ok_write _ _ _ _ h3 (by omega), h4, h5, h6, h7, h8⟩
  case unusable => exact ⟨h1, h2, h3, h4, h5, h6, h7, h8⟩
  case io => exact ⟨h1, h2, h3, Memory.ok_write _ _ _ _ h4 (by omega), h5, h6, h7, h8⟩
  case hram => exact ⟨h1, h2, h3, h4, Memory.ok_write _ _ _ _ h5 (by omega), h6, h7, h8⟩
  case ie => exact ⟨h1, h2, h3, h4, h5, h6, h7, h8⟩

/-- The number of the address that names the byte (R59). -/
theorem canonicalAddr_toNat (a : Word) :
    (canonicalAddr a).toNat = if regionOf a = .echo then a.toNat - 0x2000 else a.toNat := by
  have hb := regionOf_bounds a
  unfold canonicalAddr
  split
  · rename_i h
    rw [h] at hb; simp only [Region.first, Region.last] at hb
    rw [BitVec.toNat_sub]; simp; omega
  · rfl

theorem echo_offset (x y : Nat) (hx : 0xE000 ≤ x) (hy : 0xC000 ≤ y) (h : ¬ x - 0x2000 = y) :
    y - 0xC000 ≠ x - 0xE000 := by
  obtain ⟨k, rfl⟩ := Nat.exists_eq_add_of_le hx
  obtain ⟨j, rfl⟩ := Nat.exists_eq_add_of_le hy
  intro e
  rw [Nat.add_sub_cancel_left, Nat.add_sub_cancel_left] at e
  subst e
  apply h
  rw [Nat.add_comm, Nat.add_comm 0xC000]
  exact Nat.add_sub_assoc (by decide) _

/-- A write leaves every other byte (R52, R53, R84): a control write apart. -/
theorem read_write_other (u : Bus) (a b : Word) (v : Byte) (h : u.ok) (hc : ¬ isControl a) (hs : ¬ sameByte a b) :
    (u.write a v).read b = u.read b := by
  obtain ⟨h1, h2, h3, h4, h5, h6, -, -⟩ := h
  have ha := regionOf_bounds a
  have hb := regionOf_bounds b
  have hs : ¬ (canonicalAddr a).toNat = (canonicalAddr b).toNat := fun e => hs (BitVec.eq_of_toNat_eq e)
  rw [canonicalAddr_toNat, canonicalAddr_toNat] at hs
  cases hra : regionOf a <;> rw [hra] at ha hs <;> simp only [Region.first, Region.last] at ha
  case romFixed => exact absurd ha.2 (by unfold isControl at hc; omega)
  case romSwitch => exact absurd ha.2 (by unfold isControl at hc; omega)
  case unusable => rw [write_unusable _ _ _ hra]
  case xram =>
    rw [write_xram _ _ _ hra]
    split
    · rename_i hx
      cases hrb : regionOf b <;> rw [hrb] at hb hs <;> simp only [Region.first, Region.last] at hb <;>
        simp only [reduceCtorEq, if_false, if_true] at hs
      case xram =>
        rw [read_xram _ _ hrb, read_xram _ _ hrb, ramOk_setXram, if_pos hx, if_pos hx, xramOffset_setXram]
        have hne : u.xramOffset b ≠ u.xramOffset a := fun e => hs (by unfold Bus.xramOffset at e; omega)
        exact Memory.read_write_other _ _ _ _ (Memory.wf_of_ok _ _ h6) hne
      all_goals simp only [Bus.read, hrb]
      case romSwitch => rfl
    · rfl
  case ie =>
    rw [write_ie _ _ _ hra]
    cases hrb : regionOf b <;> rw [hrb] at hb hs <;> simp only [Region.first, Region.last] at hb
    case ie => exact absurd (by simp only [reduceCtorEq, if_false]; omega) hs
    all_goals simp only [Bus.read, hrb]
    all_goals rfl
  case echo =>
    simp only [Bus.write, hra]
    cases hrb : regionOf b <;> rw [hrb] at hb hs <;> simp only [Region.first, Region.last] at hb <;>
      simp only [Bus.read, hrb] <;> simp only [reduceCtorEq, if_false, if_true] at hs
    case wram =>
      exact Memory.read_write_other _ _ _ _ (Memory.wf_of_ok _ _ h2) (echo_offset a.toNat b.toNat ha.1 hb.1 hs)
    case echo =>
      exact Memory.read_write_other _ _ _ _ (Memory.wf_of_ok _ _ h2) fun e =>
        hs (congrArg (· - 0x2000) ((Nat.sub_add_cancel ha.1).symm.trans
          ((congrArg (· + 0xE000) e.symm).trans (Nat.sub_add_cancel hb.1))))
    all_goals rfl
  all_goals
    simp only [Bus.write, hra]
    cases hrb : regionOf b <;> rw [hrb] at hb hs <;> simp only [Region.first, Region.last] at hb <;> simp only [Bus.read, hrb]
    all_goals first
      | rfl
      | (refine Memory.read_write_other _ _ _ _ (Memory.wf_of_ok _ _ (by assumption)) ?_
         simp only [reduceCtorEq, if_false, if_true] at hs
         clear * - hs ha hb
         generalize a.toNat = x at *
         generalize b.toNat = y at *
         omega)

/-- A byte written where writes are kept reads back (R84). -/
theorem read_write_same (u : Bus) (a : Word) (v : Byte) (h : u.ok) (hp : u.plainByte a) :
    (u.write a v).read a = v := by
  obtain ⟨h1, h2, h3, h4, h5, h6, h7, h8⟩ := h
  have hb := regionOf_bounds a
  · obtain ⟨hc, hu, hx⟩ := hp
    simp only [isControl] at *
    cases hr : regionOf a <;> rw [hr] at hb hu hx <;> simp only [Region.first, Region.last] at hb
    case romFixed => omega
    case romSwitch => omega
    case unusable => exact absurd rfl hu
    case ie => rw [write_ie _ _ _ hr, read_ie _ _ hr]
    case xram =>
      have hx := hx rfl
      rw [write_xram _ _ _ hr, if_pos hx, read_xram _ _ hr, ramOk_setXram, if_pos hx, xramOffset_setXram]
      exact Memory.read_write_same _ _ _ (Memory.wf_of_ok _ _ h6)
    case vram =>
      rw [write_vram _ _ _ hr, read_vram _ _ hr]
      exact Memory.read_write_same _ _ _ (Memory.wf_of_ok _ _ (by assumption))
    case wram =>
      rw [write_wram _ _ _ hr, read_wram _ _ hr]
      exact Memory.read_write_same _ _ _ (Memory.wf_of_ok _ _ (by assumption))
    case echo =>
      rw [write_echo _ _ _ hr, read_echo _ _ hr]
      exact Memory.read_write_same _ _ _ (Memory.wf_of_ok _ _ (by assumption))
    case oam =>
      rw [write_oam _ _ _ hr, read_oam _ _ hr]
      exact Memory.read_write_same _ _ _ (Memory.wf_of_ok _ _ (by assumption))
    case io =>
      rw [write_io _ _ _ hr, read_io _ _ hr]
      exact Memory.read_write_same _ _ _ (Memory.wf_of_ok _ _ (by assumption))
    case hram =>
      rw [write_hram _ _ _ hr, read_hram _ _ hr]
      exact Memory.read_write_same _ _ _ (Memory.wf_of_ok _ _ (by assumption))

/-- Writing the same byte there again changes nothing (R84). -/
theorem write_twice (u : Bus) (a : Word) (v : Byte) (h : u.ok) : (u.write a v).write a v = u.write a v := by
  obtain ⟨h1, h2, h3, h4, h5, h6, -, -⟩ := h
  cases hr : regionOf a
  case romFixed =>
    rw [write_romFixed _ _ _ hr, write_romFixed _ _ _ hr, mbcControlWrite_twice]
  case romSwitch =>
    rw [write_romSwitch _ _ _ hr, write_romSwitch _ _ _ hr, mbcControlWrite_twice]
  case vram =>
    rw [write_vram _ _ _ hr, write_vram _ _ _ hr, Memory.write_write _ _ _ _ (Memory.wf_of_ok _ _ h1)]
  case wram =>
    rw [write_wram _ _ _ hr, write_wram _ _ _ hr, Memory.write_write _ _ _ _ (Memory.wf_of_ok _ _ h2)]
  case echo =>
    rw [write_echo _ _ _ hr, write_echo _ _ _ hr, Memory.write_write _ _ _ _ (Memory.wf_of_ok _ _ h2)]
  case oam =>
    rw [write_oam _ _ _ hr, write_oam _ _ _ hr, Memory.write_write _ _ _ _ (Memory.wf_of_ok _ _ h3)]
  case io =>
    rw [write_io _ _ _ hr, write_io _ _ _ hr, Memory.write_write _ _ _ _ (Memory.wf_of_ok _ _ h4)]
  case hram =>
    rw [write_hram _ _ _ hr, write_hram _ _ _ hr, Memory.write_write _ _ _ _ (Memory.wf_of_ok _ _ h5)]
  case unusable =>
    rw [write_unusable _ _ _ hr, write_unusable _ _ _ hr]
  case ie =>
    rw [write_ie _ _ _ hr, write_ie _ _ _ hr]
  case xram =>
    rw [write_xram _ _ _ hr, write_xram _ _ _ hr]
    by_cases hx : u.ramOk = true
    · rw [if_pos hx, ramOk_setXram, if_pos hx]
      exact congrArg (fun m => ({ u with xram := m } : Bus)) (Memory.write_write u.xram (u.xramOffset a) v v
        (Memory.wf_of_ok _ _ h6))
    · rw [if_neg hx, if_neg hx]

/-- An address and the next never name one byte (R59). -/
theorem not_sameByte_succ (a : Word) : ¬ sameByte a (a + 1) := by
  intro h
  have h := congrArg BitVec.toNat h
  rw [canonicalAddr_toNat, canonicalAddr_toNat] at h
  have h1 := regionOf_bounds a
  have h2 := regionOf_bounds (a + 1)
  have e : (a + 1).toNat = (a.toNat + 1) % 65536 := by rw [BitVec.toNat_add]; rfl
  have := a.isLt
  rw [e] at h h2
  by_cases hw : a.toNat = 65535
  · rw [hw] at h1 h2 h
    simp only [Nat.reduceAdd, Nat.reduceMod] at h h2
    cases hr : regionOf (a + 1) <;> rw [hr] at h2 h <;> simp only [Region.first, Region.last] at h2 <;>
      cases hs : regionOf a <;> rw [hs] at h1 h <;> simp only [Region.first, Region.last] at h1 <;>
      simp only [reduceCtorEq, if_true, if_false] at h
  · rw [Nat.mod_eq_of_lt (by omega)] at h h2
    cases hr : regionOf (a + 1) <;> rw [hr] at h2 h <;> simp only [Region.first, Region.last] at h2 <;>
      cases hs : regionOf a <;> rw [hs] at h1 h <;> simp only [Region.first, Region.last] at h1 <;>
      simp only [reduceCtorEq, if_true, if_false] at h <;> omega


/-- A store at 8000 or above leaves which bytes keep what is written (R80). -/
theorem plainByte_write (u : Bus) (a b : Word) (v : Byte) (hc : ¬ isControl a) (h : u.plainByte b) :
    (u.write a v).plainByte b := by
  refine ⟨h.1, h.2.1, fun hx => ?_⟩
  have := h.2.2 hx
  rw [ramOk_iff] at this ⊢
  rw [write_cart, write_mbc _ _ _ hc]
  exact this

/-- A push is two bus writes: it keeps the bus in order (R150). -/
theorem push16_ok (s : State) (v : Word) (h : s.bus.ok) : (s.push16 v).bus.ok :=
  write_ok _ _ _ (write_ok _ _ _ h)

/-- A dispatch is three bus writes: it keeps the bus in order (R298). -/
theorem dispatch_ok (s : State) (i : Source) (h : s.bus.ok) : (s.dispatch i).bus.ok :=
  write_ok _ _ _ (push16_ok { s with haltBug := false } s.dispatchReturn h)

/-- Reset leaves the bus in order when the image fits its banks (R35). -/
theorem afterReset_ok (u : Bus) (init : ResetInit) (h : Cartridge.ok u.cart = true) : (u.afterReset init).ok := by
  refine ⟨Memory.ok_ofCells _ _, Memory.ok_ofCells _ _, Memory.ok_ofCells _ _, Memory.ok_ofCells _ _,
    Memory.ok_ofCells _ _, Memory.ok_ofCells _ _, ?_, h⟩
  have hb := two_le_bankCount u.cart
  simp only [Bus.afterReset, Mbc.ok, Mbc.reset]
  split <;> simp
  all_goals omega

/-- The bus of `State.reset` is in order. -/
theorem reset_ok : State.reset.bus.ok := by decide

end Sys2Proof.Machine
end

