-- ==== Sys2Proof/Laws/Decode.lean ====
section
/-! SUPPORT. What the two decode tables hold, once for all 512 slots: a slot of the primary table is a well-formed
instruction that encodes to the slot's byte and its operand bytes, a slot of the extended table one that encodes to the
prefix byte and the slot's byte. A proof about decoding starts here. -/

namespace Sys2Proof

open Machine

/-- The byte of a slot from its row and column (R108, R109). -/
theorem ofNat_nibbles (op : Byte) : BitVec.ofNat 8 (16 * (hiNibble op).val + (loNibble op).val) = op := by
  apply BitVec.eq_of_toNat_eq
  have := op.isLt
  simp only [hiNibble, loNibble, BitVec.toNat_ofNat]
  omega

/-- What every slot of the primary table holds (R108). -/
theorem primarySlot_spec (op : Byte) :
    match primarySlot op with
    | .op i => i.wellFormed = true ∧ encode i = [op]
    | .opN f => ∀ n, (f n).wellFormed = true ∧ encode (f n) = [op, n]
    | .opNN f => ∀ nn, (f nn).wellFormed = true ∧ encode (f nn) = [op, nn.loByte, nn.hiByte]
    | .cb => op = 0xCB := by
  have H : ∀ hi lo : Fin 16,
      match (primaryTable.get hi).get lo with
      | .op i => i.wellFormed = true ∧ encode i = [BitVec.ofNat 8 (16 * hi.val + lo.val)]
      | .opN f => ∀ n, (f n).wellFormed = true ∧ encode (f n) = [BitVec.ofNat 8 (16 * hi.val + lo.val), n]
      | .opNN f =>
        ∀ nn, (f nn).wellFormed = true ∧
          encode (f nn) = [BitVec.ofNat 8 (16 * hi.val + lo.val), nn.loByte, nn.hiByte]
      | .cb => BitVec.ofNat 8 (16 * hi.val + lo.val) = 0xCB#8 := by
    intro hi lo
    fin_cases hi <;> fin_cases lo
    all_goals first | exact ⟨rfl, rfl⟩ | (intro n; exact ⟨rfl, rfl⟩) | rfl
  have := H (hiNibble op) (loNibble op)
  rw [ofNat_nibbles] at this
  exact this

/-- What every slot of the extended table holds (R109). -/
theorem extendedInstr_spec (op : Byte) :
    (extendedInstr op).wellFormed = true ∧ encode (extendedInstr op) = [0xCB, op] := by
  have H : ∀ hi lo : Fin 16, ((extendedTable.get hi).get lo).wellFormed = true ∧
      encode ((extendedTable.get hi).get lo) = [0xCB, BitVec.ofNat 8 (16 * hi.val + lo.val)] := by
    intro hi lo
    fin_cases hi <;> fin_cases lo
    all_goals exact ⟨rfl, rfl⟩
  have := H (hiNibble op) (loNibble op)
  rw [ofNat_nibbles] at this
  exact this

end Sys2Proof
end

