-- ==== Sys2Proof/Laws/Exec.lean ====
section
/-! SUPPORT. What the 512 arms of `exec` say, once per pattern line: `Form.run` by the shared operations, and that `exec`
runs an instruction's pattern line. A proof about every instruction starts here and has 57 cases. -/

namespace Sys2Proof

open Machine

/-- The meaning of a pattern line over the shared operations. -/
def Form.run (f : Form) (s : State) : Result :=
  match f with
  | .nop => done 4 s
  | .ldNnSp nn => done 20 (ldAddrSp nn s)
  | .stop n => done 4 (Machine.stop n s)
  | .jr e => done 12 (jumpRel e s)
  | .jrCc cc e => branch cc 8 12 (jumpRel e) s
  | .ldPairNn rr nn => done 12 (ldPairImm rr nn s)
  | .addHl rr => done 8 (addHlPair rr s)
  | .ldIndA m => done 8 (ldIndAcc m s)
  | .ldAInd m => done 8 (ldAccInd m s)
  | .incPair rr => done 8 (Machine.incPair rr s)
  | .decPair rr => done 8 (Machine.decPair rr s)
  | .inc (.reg r) => done 4 (incOperand (.reg r) s)
  | .inc .indHl => done 12 (incOperand .indHl s)
  | .dec (.reg r) => done 4 (decOperand (.reg r) s)
  | .dec .indHl => done 12 (decOperand .indHl s)
  | .ldRN r n => done 8 (ldRegImm r n s)
  | .ldIndN n => done 12 (ldIndImm n s)
  | .rlca => done 4 (rotAcc .rlc s)
  | .rrca => done 4 (rotAcc .rrc s)
  | .rla => done 4 (rotAcc .rl s)
  | .rra => done 4 (rotAcc .rr s)
  | .daa => done 4 (decimalAdjust s)
  | .cpl => done 4 (complementA s)
  | .scf => done 4 (setCarry s)
  | .ccf => done 4 (complementCarry s)
  | .ldRR r r' => done 4 (ldRegReg r r' s)
  | .ldRInd r => done 8 (ldRegInd r s)
  | .ldIndR r => done 8 (ldIndReg r s)
  | .halt => done 4 (Machine.halt s)
  | .alu op (.reg r) => done 4 (aluOperand op (.reg r) s)
  | .alu op .indHl => done 8 (aluOperand op .indHl s)
  | .aluN op n => done 8 (aluByte op n s)
  | .retCc cc => branch cc 8 20 (fun s => s.ret) s
  | .ldhNA n => done 12 (ldAddrAcc n.highPage s)
  | .ldhAN n => done 12 (ldAccAddr n.highPage s)
  | .addSpE e => done 16 (addSpDisp e s)
  | .ldHlSpE e => done 12 (ldHlSpDisp e s)
  | .pop qq => done 12 (popPair qq s)
  | .push qq => done 16 (pushPair qq s)
  | .ret => done 16 s.ret
  | .reti => done 16 s.retInterrupt
  | .jpHl => done 4 (s.setPc s.hl)
  | .ldSpHl => done 8 (ldSpFromHl s)
  | .jpCc cc nn => branch cc 12 16 (fun s => s.setPc nn) s
  | .ldhCA => done 8 (ldAddrAcc s.c.highPage s)
  | .ldhAC => done 8 (ldAccAddr s.c.highPage s)
  | .ldNnA nn => done 16 (ldAddrAcc nn s)
  | .ldANn nn => done 16 (ldAccAddr nn s)
  | .jpNn nn => done 16 (s.setPc nn)
  | .prefixCb => prefixThenExtended s
  | .di => done 4 (disableInterrupts s)
  | .ei => done 4 (enableInterrupts s)
  | .callCc cc nn => branch cc 12 24 (call nn) s
  | .callNn nn => done 24 (call nn s)
  | .rst t => done 16 (call t.rstTarget s)
  | .illegal _ => done 4 (lockUp s)
  | .rot op o => done (modifyCycles o) (rotOperand op o s)
  | .bit b o => done (testCycles o) (bitTest b o s)
  | .res b o => done (modifyCycles o) (bitReset b o s)
  | .set b o => done (modifyCycles o) (bitSet b o s)

/-- Every instruction runs its pattern line. -/
theorem exec_eq_run (i : Instr) (s : State) : exec i s = i.form.run s := by
  cases i <;> rfl

/-- Every pattern line goes on, whatever the state (R285). -/
theorem run_next (f : Form) (s : State) : ∃ t : State, f.run s = .next t := by
  cases f
  all_goals first
    | exact ⟨_, rfl⟩
    | (simp only [Form.run, branch]; split <;> exact ⟨_, rfl⟩)
    | (rename_i x; cases x <;> exact ⟨_, rfl⟩)
    | (simp only [Form.run, prefixThenExtended, runExtended]
       repeat' split
       all_goals exact ⟨_, rfl⟩)

/-- Reading the fields and putting them back gives the instruction. -/
theorem form_toInstr (i : Instr) : i.form.toInstr = i := by
  cases i <;> rfl

/-- An instruction built from a pattern line has that pattern line. -/
theorem toInstr_form (f : Form) : f.toInstr.form = f := by
  cases f
  all_goals first
    | rfl
    | rename_i x; cases x <;> rfl
    | rename_i x y; cases x <;> rfl
    | rename_i x y; cases x <;> cases y <;> rfl
    | rename_i x; rcases x with r | _ <;> first | rfl | cases r <;> rfl
    | rename_i x y; rcases y with r | _ <;> cases x <;> first | rfl | cases r <;> rfl

/-- The meaning of an instruction built from a pattern line. -/
theorem exec_toInstr (f : Form) (s : State) : exec f.toInstr s = f.run s := by
  rw [exec_eq_run, toInstr_form]

/-- The bytes of an instruction built from a pattern line. -/
theorem encode_toInstr (f : Form) : Sys2Proof.encode f.toInstr = f.encode := by
  rw [Sys2Proof.encode, toInstr_form]

end Sys2Proof
end

