-- ==== Sys2Proof/Laws/Flags.lean ====
section
/-! SUPPORT. The laws of F: the flags of a flag byte, and that no write of F leaves its low nibble non-zero (R22). -/

namespace Sys2Proof.Machine

@[simp] theorem flagByte_z (z n h c : Bool) : (flagByte z n h c)[7] = z := by
  cases z <;> cases n <;> cases h <;> cases c <;> rfl

@[simp] theorem flagByte_n (z n h c : Bool) : (flagByte z n h c)[6] = n := by
  cases z <;> cases n <;> cases h <;> cases c <;> rfl

@[simp] theorem flagByte_h (z n h c : Bool) : (flagByte z n h c)[5] = h := by
  cases z <;> cases n <;> cases h <;> cases c <;> rfl

@[simp] theorem flagByte_c (z n h c : Bool) : (flagByte z n h c)[4] = c := by
  cases z <;> cases n <;> cases h <;> cases c <;> rfl

/-- The mask of a write of F leaves a flag byte as it is (R22). -/
@[simp] theorem flagByte_masked (z n h c : Bool) : flagByte z n h c &&& 240#8 = flagByte z n h c := by
  cases z <;> cases n <;> cases h <;> cases c <;> rfl

/-- F after a flag line is the flag byte. -/
@[simp] theorem setFlags_f (s : State) (z n h c : Bool) : (s.setFlags z n h c).f = flagByte z n h c := by
  simp [State.setFlags]

/-- A flag line as one record update. -/
theorem setFlags_eq (s : State) (z n h c : Bool) : s.setFlags z n h c = { s with f := flagByte z n h c } := by
  simp [State.setFlags, State.setF]

@[simp] theorem setFlags_flagZ (s : State) (z n h c : Bool) : (s.setFlags z n h c).flagZ = z := by
  simp [State.flagZ]

@[simp] theorem setFlags_flagN (s : State) (z n h c : Bool) : (s.setFlags z n h c).flagN = n := by
  simp [State.flagN]

@[simp] theorem setFlags_flagH (s : State) (z n h c : Bool) : (s.setFlags z n h c).flagH = h := by
  simp [State.flagH]

@[simp] theorem setFlags_flagC (s : State) (z n h c : Bool) : (s.setFlags z n h c).flagC = c := by
  simp [State.flagC]

/-- Every byte written to F has a zero low nibble (R22). -/
theorem masked_low_nibble (v : Byte) : v &&& 0xF0 &&& 0x0F = 0 := by
  rw [BitVec.and_assoc]
  exact BitVec.and_zero

end Sys2Proof.Machine
end

