-- ==== Sys2Proof/Laws/Ops.lean ====
section
/-! SUPPORT. What the shared operations do, once each: the accumulator operations, rotates and shifts in numbers, HALT, the
conditional transfer, and taking an interrupt; and which of them the instructions of one pattern line run. -/

namespace Sys2Proof.Machine

/-- The low nibble in numbers. -/
theorem lowNibble_toNat (v : Byte) : (v &&& (0x0F : Byte)).toNat = v.toNat % 16 := by
  rw [BitVec.toNat_and]
  exact Nat.and_two_pow_sub_one_eq_mod _ 4

/-- Z of a result given as a number. -/
theorem ofNat_beq_zero (k : Nat) : (BitVec.ofNat 8 k == 0#8) = decide (k % 256 = 0) := by
  rw [Bool.eq_iff_iff, beq_iff_eq, decide_eq_true_iff]
  constructor
  · intro h
    simpa using congrArg BitVec.toNat h
  · intro h
    apply BitVec.eq_of_toNat_eq
    simpa using h

/-- An accumulator operation writes A (CP apart) and F, and nothing else (R165 to R167). -/
theorem aluByte_eq (op : AluOp) (v : Byte) (s : State) :
    aluByte op v s =
      { s with
        a := if op = .cp then s.a else (aluCompute op s.a v s.flagC).res
        f := flagByte (aluCompute op s.a v s.flagC).z (aluCompute op s.a v s.flagC).n (aluCompute op s.a v s.flagC).h
          (aluCompute op s.a v s.flagC).c } := by
  cases op <;> simp [aluByte, setFlags_eq]

/-- Every rotate and shift in numbers: the result and the carry (R220 to R223, R225 to R240). -/
theorem rotCompute_eq (op : RotOp) (v : Byte) (c : Bool) :
    rotCompute op v c =
      match op with
      | .rlc => (BitVec.ofNat 8 (2 * v.toNat % 256 + v.toNat / 128), decide (v.toNat ≥ 128))
      | .rrc => (BitVec.ofNat 8 (v.toNat / 2 + 128 * (v.toNat % 2)), decide (v.toNat % 2 = 1))
      | .rl => (BitVec.ofNat 8 (2 * v.toNat % 256 + c.toNat), decide (v.toNat ≥ 128))
      | .rr => (BitVec.ofNat 8 (v.toNat / 2 + 128 * c.toNat), decide (v.toNat % 2 = 1))
      | .sla => (BitVec.ofNat 8 (2 * v.toNat % 256), decide (v.toNat ≥ 128))
      | .sra => (BitVec.ofNat 8 (v.toNat / 2 + 128 * (v.toNat / 128)), decide (v.toNat % 2 = 1))
      | .swap => (BitVec.ofNat 8 (16 * (v.toNat % 16) + v.toNat / 16), false)
      | .srl => (BitVec.ofNat 8 (v.toNat / 2), decide (v.toNat % 2 = 1)) := by
  revert v c
  cases op <;> decide

/-- A conditional transfer always goes on: with its action when the condition holds, else with the count alone (R250). -/
theorem branch_eq (cc : Cond) (m n : Nat) (act : State → State) (s : State) :
    branch cc m n act s = .next (if s.cond cc then (act s).setCycles n else s.setCycles m) := by
  unfold branch
  split <;> rfl

/-- HALT changes the halt bug or the mode, and nothing else (R271). -/
theorem halt_eq (s : State) :
    halt s =
      { s with
        haltBug := if s.ime = false ∧ s.pending ≠ 0 then true else s.haltBug
        mode := if s.ime = false ∧ s.pending ≠ 0 then s.mode else .halted } := by
  unfold halt
  split <;> rfl

/-- A dispatch: three bus writes, the return address first, and the registers (R298). -/
theorem dispatch_eq (s : State) (i : Source) :
    let pushed :=
      (s.bus.write (s.sp - 1) s.dispatchReturn.hiByte).write (s.sp - 2) s.dispatchReturn.loByte
    s.dispatch i =
      { s with
        bus := pushed.write Config.ifAddr (pushed.read Config.ifAddr &&& ~~~ i.mask)
        sp := s.sp - 2, pc := i.vector, ime := false, imePending := false, haltBug := false } := by
  simp only [State.dispatch, push16_eq]
  rfl

/-- The source picked is the lowest-numbered one whose bit is set (R297). -/
theorem lowestSource_eq (p : Byte) (i : Source) (h : p.getLsbD i.index = true)
    (hlow : ∀ j : Source, j.index < i.index → p.getLsbD j.index = false) : lowestSource p = i := by
  have h0 := hlow .vblank
  have h1 := hlow .lcdStatus
  have h2 := hlow .timer
  have h3 := hlow .serial
  clear hlow
  unfold lowestSource
  cases i <;> simp only [Source.index, Nat.reduceLT, true_imp_iff] at h h0 h1 h2 h3
  case vblank => rw [if_pos h]
  case lcdStatus => rw [h0, h]; rfl
  case timer => rw [h0, h1, h]; rfl
  case serial => rw [h0, h1, h2, h]; rfl
  case joypad => rw [h0, h1, h2, h3]; rfl

/-- A canonical store is what its own listing gives (R35, R36). -/
theorem Memory.ofCells_self (size : Nat) (m : Memory) (h : Memory.ok size m = true) : Memory.ofCells size m = m := by
  refine Memory.ext_of_wf _ _ (Memory.wf_of_ok _ _ (Memory.ok_ofCells size m)) (Memory.wf_of_ok _ _ h) ?_
  simp only [Memory.ok, Bool.and_eq_true] at h
  obtain ⟨-, h2⟩ := h
  intro a
  induction m with
  | nil => rfl
  | cons c m ih =>
    obtain ⟨k, v⟩ := c
    simp only [Memory.within, List.all_cons, Bool.and_eq_true, decide_eq_true_eq] at h2
    rw [Memory.ofCells, if_pos h2.1, Memory.read_write _ _ _ _ (Memory.wf_of_ok _ _ (Memory.ok_ofCells size m))]
    simp only [Memory.read]
    by_cases hk : k = a
    · simp [hk]
    · rw [if_neg hk, if_neg (Ne.symm hk)]
      exact ih h2.2

end Sys2Proof.Machine

namespace Sys2Proof

open Machine

/-- The accumulator operations of R168 to R190 on a register or on the byte at HL. -/
theorem exec_aluOf (op : AluOp) (o : Opnd) (s : State) :
    exec (Instr.aluOf op o) s = done (if o = .indHl then 8 else 4) (aluByte op (s.read8 o) s) := by
  cases op <;> rcases o with r | _ <;> first | rfl | (cases r <;> rfl)

/-- The rotates and shifts of R225 to R240. -/
theorem exec_rotOf (op : RotOp) (o : Opnd) (s : State) :
    exec (Instr.rotOf op o) s = done (if o = .indHl then 16 else 8) (rotOperand op o s) := by
  cases op <;> rcases o with r | _ <;> first | rfl | (cases r <;> rfl)

/-- The bit tests of R241 and R242. -/
theorem exec_bitOf (b : Idx3) (o : Opnd) (s : State) :
    exec (Instr.bitOf b o) s = done (if o = .indHl then 12 else 8) (bitTest b o s) := by
  cases b <;> rcases o with r | _ <;> first | rfl | (cases r <;> rfl)

/-- The bit resets of R243 and R244. -/
theorem exec_resOf (b : Idx3) (o : Opnd) (s : State) :
    exec (Instr.resOf b o) s = done (if o = .indHl then 16 else 8) (bitReset b o s) := by
  cases b <;> rcases o with r | _ <;> first | rfl | (cases r <;> rfl)

/-- The bit sets of R245 and R246. -/
theorem exec_setOf (b : Idx3) (o : Opnd) (s : State) :
    exec (Instr.setOf b o) s = done (if o = .indHl then 16 else 8) (bitSet b o s) := by
  cases b <;> rcases o with r | _ <;> first | rfl | (cases r <;> rfl)

end Sys2Proof
end

