-- ==== Sys2Proof/Laws/PerInstr.lean ====
section
/-! SUPPORT. Statements about every instruction as syntax, one lemma per constructor: the fields of an instruction's encoding
pattern give the instruction back, and its encoding has one to three bytes (R100). -/

namespace Sys2Proof.Laws.FormView

open Sys2Proof

/-- The encoding fields of an instruction determine it, and it takes one to three bytes (R100, R108, R109). -/
def Statement (i : Instr) : Prop :=
  i.form.toInstr = i ∧ 1 ≤ (encode i).length ∧ (encode i).length ≤ 3

theorem ldBcNn (nn : Word) : Statement (.ldBcNn nn) := ⟨rfl, Nat.le_add_left 1 _, Nat.le_of_ble_eq_true rfl⟩

theorem ldBN (n : Byte) : Statement (.ldBN n) := ⟨rfl, Nat.le_add_left 1 _, Nat.le_of_ble_eq_true rfl⟩

theorem ldIndNnSp (nn : Word) : Statement (.ldIndNnSp nn) := ⟨rfl, Nat.le_add_left 1 _, Nat.le_of_ble_eq_true rfl⟩

theorem ldCN (n : Byte) : Statement (.ldCN n) := ⟨rfl, Nat.le_add_left 1 _, Nat.le_of_ble_eq_true rfl⟩

theorem stop (n : Byte) : Statement (.stop n) := ⟨rfl, Nat.le_add_left 1 _, Nat.le_of_ble_eq_true rfl⟩

theorem ldDeNn (nn : Word) : Statement (.ldDeNn nn) := ⟨rfl, Nat.le_add_left 1 _, Nat.le_of_ble_eq_true rfl⟩

theorem ldDN (n : Byte) : Statement (.ldDN n) := ⟨rfl, Nat.le_add_left 1 _, Nat.le_of_ble_eq_true rfl⟩

theorem jrE (e : Byte) : Statement (.jrE e) := ⟨rfl, Nat.le_add_left 1 _, Nat.le_of_ble_eq_true rfl⟩

theorem ldEN (n : Byte) : Statement (.ldEN n) := ⟨rfl, Nat.le_add_left 1 _, Nat.le_of_ble_eq_true rfl⟩

theorem jrNzE (e : Byte) : Statement (.jrNzE e) := ⟨rfl, Nat.le_add_left 1 _, Nat.le_of_ble_eq_true rfl⟩

theorem ldHlNn (nn : Word) : Statement (.ldHlNn nn) := ⟨rfl, Nat.le_add_left 1 _, Nat.le_of_ble_eq_true rfl⟩

theorem ldHN (n : Byte) : Statement (.ldHN n) := ⟨rfl, Nat.le_add_left 1 _, Nat.le_of_ble_eq_true rfl⟩

theorem jrZE (e : Byte) : Statement (.jrZE e) := ⟨rfl, Nat.le_add_left 1 _, Nat.le_of_ble_eq_true rfl⟩

theorem ldLN (n : Byte) : Statement (.ldLN n) := ⟨rfl, Nat.le_add_left 1 _, Nat.le_of_ble_eq_true rfl⟩

theorem jrNcE (e : Byte) : Statement (.jrNcE e) := ⟨rfl, Nat.le_add_left 1 _, Nat.le_of_ble_eq_true rfl⟩

theorem ldSpNn (nn : Word) : Statement (.ldSpNn nn) := ⟨rfl, Nat.le_add_left 1 _, Nat.le_of_ble_eq_true rfl⟩

theorem ldIndHlN (n : Byte) : Statement (.ldIndHlN n) := ⟨rfl, Nat.le_add_left 1 _, Nat.le_of_ble_eq_true rfl⟩

theorem jrCE (e : Byte) : Statement (.jrCE e) := ⟨rfl, Nat.le_add_left 1 _, Nat.le_of_ble_eq_true rfl⟩

theorem ldAN (n : Byte) : Statement (.ldAN n) := ⟨rfl, Nat.le_add_left 1 _, Nat.le_of_ble_eq_true rfl⟩

theorem jpNzNn (nn : Word) : Statement (.jpNzNn nn) := ⟨rfl, Nat.le_add_left 1 _, Nat.le_of_ble_eq_true rfl⟩

theorem jpNn (nn : Word) : Statement (.jpNn nn) := ⟨rfl, Nat.le_add_left 1 _, Nat.le_of_ble_eq_true rfl⟩

theorem callNzNn (nn : Word) : Statement (.callNzNn nn) := ⟨rfl, Nat.le_add_left 1 _, Nat.le_of_ble_eq_true rfl⟩

theorem addAN (n : Byte) : Statement (.addAN n) := ⟨rfl, Nat.le_add_left 1 _, Nat.le_of_ble_eq_true rfl⟩

theorem jpZNn (nn : Word) : Statement (.jpZNn nn) := ⟨rfl, Nat.le_add_left 1 _, Nat.le_of_ble_eq_true rfl⟩

theorem callZNn (nn : Word) : Statement (.callZNn nn) := ⟨rfl, Nat.le_add_left 1 _, Nat.le_of_ble_eq_true rfl⟩

theorem callNn (nn : Word) : Statement (.callNn nn) := ⟨rfl, Nat.le_add_left 1 _, Nat.le_of_ble_eq_true rfl⟩

theorem adcAN (n : Byte) : Statement (.adcAN n) := ⟨rfl, Nat.le_add_left 1 _, Nat.le_of_ble_eq_true rfl⟩

theorem jpNcNn (nn : Word) : Statement (.jpNcNn nn) := ⟨rfl, Nat.le_add_left 1 _, Nat.le_of_ble_eq_true rfl⟩

theorem callNcNn (nn : Word) : Statement (.callNcNn nn) := ⟨rfl, Nat.le_add_left 1 _, Nat.le_of_ble_eq_true rfl⟩

theorem subN (n : Byte) : Statement (.subN n) := ⟨rfl, Nat.le_add_left 1 _, Nat.le_of_ble_eq_true rfl⟩

theorem jpCNn (nn : Word) : Statement (.jpCNn nn) := ⟨rfl, Nat.le_add_left 1 _, Nat.le_of_ble_eq_true rfl⟩

theorem callCNn (nn : Word) : Statement (.callCNn nn) := ⟨rfl, Nat.le_add_left 1 _, Nat.le_of_ble_eq_true rfl⟩

theorem sbcAN (n : Byte) : Statement (.sbcAN n) := ⟨rfl, Nat.le_add_left 1 _, Nat.le_of_ble_eq_true rfl⟩

theorem ldhIndNA (n : Byte) : Statement (.ldhIndNA n) := ⟨rfl, Nat.le_add_left 1 _, Nat.le_of_ble_eq_true rfl⟩

theorem andN (n : Byte) : Statement (.andN n) := ⟨rfl, Nat.le_add_left 1 _, Nat.le_of_ble_eq_true rfl⟩

theorem addSpE (e : Byte) : Statement (.addSpE e) := ⟨rfl, Nat.le_add_left 1 _, Nat.le_of_ble_eq_true rfl⟩

theorem ldIndNnA (nn : Word) : Statement (.ldIndNnA nn) := ⟨rfl, Nat.le_add_left 1 _, Nat.le_of_ble_eq_true rfl⟩

theorem xorN (n : Byte) : Statement (.xorN n) := ⟨rfl, Nat.le_add_left 1 _, Nat.le_of_ble_eq_true rfl⟩

theorem ldhAIndN (n : Byte) : Statement (.ldhAIndN n) := ⟨rfl, Nat.le_add_left 1 _, Nat.le_of_ble_eq_true rfl⟩

theorem orN (n : Byte) : Statement (.orN n) := ⟨rfl, Nat.le_add_left 1 _, Nat.le_of_ble_eq_true rfl⟩

theorem ldHlSpE (e : Byte) : Statement (.ldHlSpE e) := ⟨rfl, Nat.le_add_left 1 _, Nat.le_of_ble_eq_true rfl⟩

theorem ldAIndNn (nn : Word) : Statement (.ldAIndNn nn) := ⟨rfl, Nat.le_add_left 1 _, Nat.le_of_ble_eq_true rfl⟩

theorem cpN (n : Byte) : Statement (.cpN n) := ⟨rfl, Nat.le_add_left 1 _, Nat.le_of_ble_eq_true rfl⟩

theorem nop : Statement .nop := ⟨rfl, by decide, by decide⟩

theorem ldIndBcA : Statement .ldIndBcA := ⟨rfl, by decide, by decide⟩

theorem incBc : Statement .incBc := ⟨rfl, by decide, by decide⟩

theorem incB : Statement .incB := ⟨rfl, by decide, by decide⟩

theorem decB : Statement .decB := ⟨rfl, by decide, by decide⟩

theorem rlca : Statement .rlca := ⟨rfl, by decide, by decide⟩

theorem addHlBc : Statement .addHlBc := ⟨rfl, by decide, by decide⟩

theorem ldAIndBc : Statement .ldAIndBc := ⟨rfl, by decide, by decide⟩

theorem decBc : Statement .decBc := ⟨rfl, by decide, by decide⟩

theorem incC : Statement .incC := ⟨rfl, by decide, by decide⟩

theorem decC : Statement .decC := ⟨rfl, by decide, by decide⟩

theorem rrca : Statement .rrca := ⟨rfl, by decide, by decide⟩

theorem ldIndDeA : Statement .ldIndDeA := ⟨rfl, by decide, by decide⟩

theorem incDe : Statement .incDe := ⟨rfl, by decide, by decide⟩

theorem incD : Statement .incD := ⟨rfl, by decide, by decide⟩

theorem decD : Statement .decD := ⟨rfl, by decide, by decide⟩

theorem rla : Statement .rla := ⟨rfl, by decide, by decide⟩

theorem addHlDe : Statement .addHlDe := ⟨rfl, by decide, by decide⟩

theorem ldAIndDe : Statement .ldAIndDe := ⟨rfl, by decide, by decide⟩

theorem decDe : Statement .decDe := ⟨rfl, by decide, by decide⟩

theorem incE : Statement .incE := ⟨rfl, by decide, by decide⟩

theorem decE : Statement .decE := ⟨rfl, by decide, by decide⟩

theorem rra : Statement .rra := ⟨rfl, by decide, by decide⟩

theorem ldHlIncA : Statement .ldHlIncA := ⟨rfl, by decide, by decide⟩

theorem incHl : Statement .incHl := ⟨rfl, by decide, by decide⟩

theorem incH : Statement .incH := ⟨rfl, by decide, by decide⟩

theorem decH : Statement .decH := ⟨rfl, by decide, by decide⟩

theorem daa : Statement .daa := ⟨rfl, by decide, by decide⟩

theorem addHlHl : Statement .addHlHl := ⟨rfl, by decide, by decide⟩

theorem ldAHlInc : Statement .ldAHlInc := ⟨rfl, by decide, by decide⟩

theorem decHl : Statement .decHl := ⟨rfl, by decide, by decide⟩

theorem incL : Statement .incL := ⟨rfl, by decide, by decide⟩

theorem decL : Statement .decL := ⟨rfl, by decide, by decide⟩

theorem cpl : Statement .cpl := ⟨rfl, by decide, by decide⟩

theorem ldHlDecA : Statement .ldHlDecA := ⟨rfl, by decide, by decide⟩

theorem incSp : Statement .incSp := ⟨rfl, by decide, by decide⟩

theorem incIndHl : Statement .incIndHl := ⟨rfl, by decide, by decide⟩

theorem decIndHl : Statement .decIndHl := ⟨rfl, by decide, by decide⟩

theorem scf : Statement .scf := ⟨rfl, by decide, by decide⟩

theorem addHlSp : Statement .addHlSp := ⟨rfl, by decide, by decide⟩

theorem ldAHlDec : Statement .ldAHlDec := ⟨rfl, by decide, by decide⟩

theorem decSp : Statement .decSp := ⟨rfl, by decide, by decide⟩

theorem incA : Statement .incA := ⟨rfl, by decide, by decide⟩

theorem decA : Statement .decA := ⟨rfl, by decide, by decide⟩

theorem ccf : Statement .ccf := ⟨rfl, by decide, by decide⟩

theorem ldBB : Statement .ldBB := ⟨rfl, by decide, by decide⟩

theorem ldBC : Statement .ldBC := ⟨rfl, by decide, by decide⟩

theorem ldBD : Statement .ldBD := ⟨rfl, by decide, by decide⟩

theorem ldBE : Statement .ldBE := ⟨rfl, by decide, by decide⟩

theorem ldBH : Statement .ldBH := ⟨rfl, by decide, by decide⟩

theorem ldBL : Statement .ldBL := ⟨rfl, by decide, by decide⟩

theorem ldBIndHl : Statement .ldBIndHl := ⟨rfl, by decide, by decide⟩

theorem ldBA : Statement .ldBA := ⟨rfl, by decide, by decide⟩

theorem ldCB : Statement .ldCB := ⟨rfl, by decide, by decide⟩

theorem ldCC : Statement .ldCC := ⟨rfl, by decide, by decide⟩

theorem ldCD : Statement .ldCD := ⟨rfl, by decide, by decide⟩

theorem ldCE : Statement .ldCE := ⟨rfl, by decide, by decide⟩

theorem ldCH : Statement .ldCH := ⟨rfl, by decide, by decide⟩

theorem ldCL : Statement .ldCL := ⟨rfl, by decide, by decide⟩

theorem ldCIndHl : Statement .ldCIndHl := ⟨rfl, by decide, by decide⟩

theorem ldCA : Statement .ldCA := ⟨rfl, by decide, by decide⟩

theorem ldDB : Statement .ldDB := ⟨rfl, by decide, by decide⟩

theorem ldDC : Statement .ldDC := ⟨rfl, by decide, by decide⟩

theorem ldDD : Statement .ldDD := ⟨rfl, by decide, by decide⟩

theorem ldDE : Statement .ldDE := ⟨rfl, by decide, by decide⟩

theorem ldDH : Statement .ldDH := ⟨rfl, by decide, by decide⟩

theorem ldDL : Statement .ldDL := ⟨rfl, by decide, by decide⟩

theorem ldDIndHl : Statement .ldDIndHl := ⟨rfl, by decide, by decide⟩

theorem ldDA : Statement .ldDA := ⟨rfl, by decide, by decide⟩

theorem ldEB : Statement .ldEB := ⟨rfl, by decide, by decide⟩

theorem ldEC : Statement .ldEC := ⟨rfl, by decide, by decide⟩

theorem ldED : Statement .ldED := ⟨rfl, by decide, by decide⟩

theorem ldEE : Statement .ldEE := ⟨rfl, by decide, by decide⟩

theorem ldEH : Statement .ldEH := ⟨rfl, by decide, by decide⟩

theorem ldEL : Statement .ldEL := ⟨rfl, by decide, by decide⟩

theorem ldEIndHl : Statement .ldEIndHl := ⟨rfl, by decide, by decide⟩

theorem ldEA : Statement .ldEA := ⟨rfl, by decide, by decide⟩

theorem ldHB : Statement .ldHB := ⟨rfl, by decide, by decide⟩

theorem ldHC : Statement .ldHC := ⟨rfl, by decide, by decide⟩

theorem ldHD : Statement .ldHD := ⟨rfl, by decide, by decide⟩

theorem ldHE : Statement .ldHE := ⟨rfl, by decide, by decide⟩

theorem ldHH : Statement .ldHH := ⟨rfl, by decide, by decide⟩

theorem ldHL : Statement .ldHL := ⟨rfl, by decide, by decide⟩

theorem ldHIndHl : Statement .ldHIndHl := ⟨rfl, by decide, by decide⟩

theorem ldHA : Statement .ldHA := ⟨rfl, by decide, by decide⟩

theorem ldLB : Statement .ldLB := ⟨rfl, by decide, by decide⟩

theorem ldLC : Statement .ldLC := ⟨rfl, by decide, by decide⟩

theorem ldLD : Statement .ldLD := ⟨rfl, by decide, by decide⟩

theorem ldLE : Statement .ldLE := ⟨rfl, by decide, by decide⟩

theorem ldLH : Statement .ldLH := ⟨rfl, by decide, by decide⟩

theorem ldLL : Statement .ldLL := ⟨rfl, by decide, by decide⟩

theorem ldLIndHl : Statement .ldLIndHl := ⟨rfl, by decide, by decide⟩

theorem ldLA : Statement .ldLA := ⟨rfl, by decide, by decide⟩

theorem ldIndHlB : Statement .ldIndHlB := ⟨rfl, by decide, by decide⟩

theorem ldIndHlC : Statement .ldIndHlC := ⟨rfl, by decide, by decide⟩

theorem ldIndHlD : Statement .ldIndHlD := ⟨rfl, by decide, by decide⟩

theorem ldIndHlE : Statement .ldIndHlE := ⟨rfl, by decide, by decide⟩

theorem ldIndHlH : Statement .ldIndHlH := ⟨rfl, by decide, by decide⟩

theorem ldIndHlL : Statement .ldIndHlL := ⟨rfl, by decide, by decide⟩

theorem halt : Statement .halt := ⟨rfl, by decide, by decide⟩

theorem ldIndHlA : Statement .ldIndHlA := ⟨rfl, by decide, by decide⟩

theorem ldAB : Statement .ldAB := ⟨rfl, by decide, by decide⟩

theorem ldAC : Statement .ldAC := ⟨rfl, by decide, by decide⟩

theorem ldAD : Statement .ldAD := ⟨rfl, by decide, by decide⟩

theorem ldAE : Statement .ldAE := ⟨rfl, by decide, by decide⟩

theorem ldAH : Statement .ldAH := ⟨rfl, by decide, by decide⟩

theorem ldAL : Statement .ldAL := ⟨rfl, by decide, by decide⟩

theorem ldAIndHl : Statement .ldAIndHl := ⟨rfl, by decide, by decide⟩

theorem ldAA : Statement .ldAA := ⟨rfl, by decide, by decide⟩

theorem addAB : Statement .addAB := ⟨rfl, by decide, by decide⟩

theorem addAC : Statement .addAC := ⟨rfl, by decide, by decide⟩

theorem addAD : Statement .addAD := ⟨rfl, by decide, by decide⟩

theorem addAE : Statement .addAE := ⟨rfl, by decide, by decide⟩

theorem addAH : Statement .addAH := ⟨rfl, by decide, by decide⟩

theorem addAL : Statement .addAL := ⟨rfl, by decide, by decide⟩

theorem addAIndHl : Statement .addAIndHl := ⟨rfl, by decide, by decide⟩

theorem addAA : Statement .addAA := ⟨rfl, by decide, by decide⟩

theorem adcAB : Statement .adcAB := ⟨rfl, by decide, by decide⟩

theorem adcAC : Statement .adcAC := ⟨rfl, by decide, by decide⟩

theorem adcAD : Statement .adcAD := ⟨rfl, by decide, by decide⟩

theorem adcAE : Statement .adcAE := ⟨rfl, by decide, by decide⟩

theorem adcAH : Statement .adcAH := ⟨rfl, by decide, by decide⟩

theorem adcAL : Statement .adcAL := ⟨rfl, by decide, by decide⟩

theorem adcAIndHl : Statement .adcAIndHl := ⟨rfl, by decide, by decide⟩

theorem adcAA : Statement .adcAA := ⟨rfl, by decide, by decide⟩

theorem subB : Statement .subB := ⟨rfl, by decide, by decide⟩

theorem subC : Statement .subC := ⟨rfl, by decide, by decide⟩

theorem subD : Statement .subD := ⟨rfl, by decide, by decide⟩

theorem subE : Statement .subE := ⟨rfl, by decide, by decide⟩

theorem subH : Statement .subH := ⟨rfl, by decide, by decide⟩

theorem subL : Statement .subL := ⟨rfl, by decide, by decide⟩

theorem subIndHl : Statement .subIndHl := ⟨rfl, by decide, by decide⟩

theorem subA : Statement .subA := ⟨rfl, by decide, by decide⟩

theorem sbcAB : Statement .sbcAB := ⟨rfl, by decide, by decide⟩

theorem sbcAC : Statement .sbcAC := ⟨rfl, by decide, by decide⟩

theorem sbcAD : Statement .sbcAD := ⟨rfl, by decide, by decide⟩

theorem sbcAE : Statement .sbcAE := ⟨rfl, by decide, by decide⟩

theorem sbcAH : Statement .sbcAH := ⟨rfl, by decide, by decide⟩

theorem sbcAL : Statement .sbcAL := ⟨rfl, by decide, by decide⟩

theorem sbcAIndHl : Statement .sbcAIndHl := ⟨rfl, by decide, by decide⟩

theorem sbcAA : Statement .sbcAA := ⟨rfl, by decide, by decide⟩

theorem andB : Statement .andB := ⟨rfl, by decide, by decide⟩

theorem andC : Statement .andC := ⟨rfl, by decide, by decide⟩

theorem andD : Statement .andD := ⟨rfl, by decide, by decide⟩

theorem andE : Statement .andE := ⟨rfl, by decide, by decide⟩

theorem andH : Statement .andH := ⟨rfl, by decide, by decide⟩

theorem andL : Statement .andL := ⟨rfl, by decide, by decide⟩

theorem andIndHl : Statement .andIndHl := ⟨rfl, by decide, by decide⟩

theorem andA : Statement .andA := ⟨rfl, by decide, by decide⟩

theorem xorB : Statement .xorB := ⟨rfl, by decide, by decide⟩

theorem xorC : Statement .xorC := ⟨rfl, by decide, by decide⟩

theorem xorD : Statement .xorD := ⟨rfl, by decide, by decide⟩

theorem xorE : Statement .xorE := ⟨rfl, by decide, by decide⟩

theorem xorH : Statement .xorH := ⟨rfl, by decide, by decide⟩

theorem xorL : Statement .xorL := ⟨rfl, by decide, by decide⟩

theorem xorIndHl : Statement .xorIndHl := ⟨rfl, by decide, by decide⟩

theorem xorA : Statement .xorA := ⟨rfl, by decide, by decide⟩

theorem orB : Statement .orB := ⟨rfl, by decide, by decide⟩

theorem orC : Statement .orC := ⟨rfl, by decide, by decide⟩

theorem orD : Statement .orD := ⟨rfl, by decide, by decide⟩

theorem orE : Statement .orE := ⟨rfl, by decide, by decide⟩

theorem orH : Statement .orH := ⟨rfl, by decide, by decide⟩

theorem orL : Statement .orL := ⟨rfl, by decide, by decide⟩

theorem orIndHl : Statement .orIndHl := ⟨rfl, by decide, by decide⟩

theorem orA : Statement .orA := ⟨rfl, by decide, by decide⟩

theorem cpB : Statement .cpB := ⟨rfl, by decide, by decide⟩

theorem cpC : Statement .cpC := ⟨rfl, by decide, by decide⟩

theorem cpD : Statement .cpD := ⟨rfl, by decide, by decide⟩

theorem cpE : Statement .cpE := ⟨rfl, by decide, by decide⟩

theorem cpH : Statement .cpH := ⟨rfl, by decide, by decide⟩

theorem cpL : Statement .cpL := ⟨rfl, by decide, by decide⟩

theorem cpIndHl : Statement .cpIndHl := ⟨rfl, by decide, by decide⟩

theorem cpA : Statement .cpA := ⟨rfl, by decide, by decide⟩

theorem retNz : Statement .retNz := ⟨rfl, by decide, by decide⟩

theorem popBc : Statement .popBc := ⟨rfl, by decide, by decide⟩

theorem pushBc : Statement .pushBc := ⟨rfl, by decide, by decide⟩

theorem rst00h : Statement .rst00h := ⟨rfl, by decide, by decide⟩

theorem retZ : Statement .retZ := ⟨rfl, by decide, by decide⟩

theorem ret : Statement .ret := ⟨rfl, by decide, by decide⟩

theorem prefixCb : Statement .prefixCb := ⟨rfl, by decide, by decide⟩

theorem rst08h : Statement .rst08h := ⟨rfl, by decide, by decide⟩

theorem retNc : Statement .retNc := ⟨rfl, by decide, by decide⟩

theorem popDe : Statement .popDe := ⟨rfl, by decide, by decide⟩

theorem illegalD3 : Statement .illegalD3 := ⟨rfl, by decide, by decide⟩

theorem pushDe : Statement .pushDe := ⟨rfl, by decide, by decide⟩

theorem rst10h : Statement .rst10h := ⟨rfl, by decide, by decide⟩

theorem retC : Statement .retC := ⟨rfl, by decide, by decide⟩

theorem reti : Statement .reti := ⟨rfl, by decide, by decide⟩

theorem illegalDB : Statement .illegalDB := ⟨rfl, by decide, by decide⟩

theorem illegalDD : Statement .illegalDD := ⟨rfl, by decide, by decide⟩

theorem rst18h : Statement .rst18h := ⟨rfl, by decide, by decide⟩

theorem popHl : Statement .popHl := ⟨rfl, by decide, by decide⟩

theorem ldhIndCA : Statement .ldhIndCA := ⟨rfl, by decide, by decide⟩

theorem illegalE3 : Statement .illegalE3 := ⟨rfl, by decide, by decide⟩

theorem illegalE4 : Statement .illegalE4 := ⟨rfl, by decide, by decide⟩

theorem pushHl : Statement .pushHl := ⟨rfl, by decide, by decide⟩

theorem rst20h : Statement .rst20h := ⟨rfl, by decide, by decide⟩

theorem jpHl : Statement .jpHl := ⟨rfl, by decide, by decide⟩

theorem illegalEB : Statement .illegalEB := ⟨rfl, by decide, by decide⟩

theorem illegalEC : Statement .illegalEC := ⟨rfl, by decide, by decide⟩

theorem illegalED : Statement .illegalED := ⟨rfl, by decide, by decide⟩

theorem rst28h : Statement .rst28h := ⟨rfl, by decide, by decide⟩

theorem popAf : Statement .popAf := ⟨rfl, by decide, by decide⟩

theorem ldhAIndC : Statement .ldhAIndC := ⟨rfl, by decide, by decide⟩

theorem di : Statement .di := ⟨rfl, by decide, by decide⟩

theorem illegalF4 : Statement .illegalF4 := ⟨rfl, by decide, by decide⟩

theorem pushAf : Statement .pushAf := ⟨rfl, by decide, by decide⟩

theorem rst30h : Statement .rst30h := ⟨rfl, by decide, by decide⟩

theorem ldSpHl : Statement .ldSpHl := ⟨rfl, by decide, by decide⟩

theorem ei : Statement .ei := ⟨rfl, by decide, by decide⟩

theorem illegalFC : Statement .illegalFC := ⟨rfl, by decide, by decide⟩

theorem illegalFD : Statement .illegalFD := ⟨rfl, by decide, by decide⟩

theorem rst38h : Statement .rst38h := ⟨rfl, by decide, by decide⟩

theorem rlcB : Statement .rlcB := ⟨rfl, by decide, by decide⟩

theorem rlcC : Statement .rlcC := ⟨rfl, by decide, by decide⟩

theorem rlcD : Statement .rlcD := ⟨rfl, by decide, by decide⟩

theorem rlcE : Statement .rlcE := ⟨rfl, by decide, by decide⟩

theorem rlcH : Statement .rlcH := ⟨rfl, by decide, by decide⟩

theorem rlcL : Statement .rlcL := ⟨rfl, by decide, by decide⟩

theorem rlcIndHl : Statement .rlcIndHl := ⟨rfl, by decide, by decide⟩

theorem rlcA : Statement .rlcA := ⟨rfl, by decide, by decide⟩

theorem rrcB : Statement .rrcB := ⟨rfl, by decide, by decide⟩

theorem rrcC : Statement .rrcC := ⟨rfl, by decide, by decide⟩

theorem rrcD : Statement .rrcD := ⟨rfl, by decide, by decide⟩

theorem rrcE : Statement .rrcE := ⟨rfl, by decide, by decide⟩

theorem rrcH : Statement .rrcH := ⟨rfl, by decide, by decide⟩

theorem rrcL : Statement .rrcL := ⟨rfl, by decide, by decide⟩

theorem rrcIndHl : Statement .rrcIndHl := ⟨rfl, by decide, by decide⟩

theorem rrcA : Statement .rrcA := ⟨rfl, by decide, by decide⟩

theorem rlB : Statement .rlB := ⟨rfl, by decide, by decide⟩

theorem rlC : Statement .rlC := ⟨rfl, by decide, by decide⟩

theorem rlD : Statement .rlD := ⟨rfl, by decide, by decide⟩

theorem rlE : Statement .rlE := ⟨rfl, by decide, by decide⟩

theorem rlH : Statement .rlH := ⟨rfl, by decide, by decide⟩

theorem rlL : Statement .rlL := ⟨rfl, by decide, by decide⟩

theorem rlIndHl : Statement .rlIndHl := ⟨rfl, by decide, by decide⟩

theorem rlA : Statement .rlA := ⟨rfl, by decide, by decide⟩

theorem rrB : Statement .rrB := ⟨rfl, by decide, by decide⟩

theorem rrC : Statement .rrC := ⟨rfl, by decide, by decide⟩

theorem rrD : Statement .rrD := ⟨rfl, by decide, by decide⟩

theorem rrE : Statement .rrE := ⟨rfl, by decide, by decide⟩

theorem rrH : Statement .rrH := ⟨rfl, by decide, by decide⟩

theorem rrL : Statement .rrL := ⟨rfl, by decide, by decide⟩

theorem rrIndHl : Statement .rrIndHl := ⟨rfl, by decide, by decide⟩

theorem rrA : Statement .rrA := ⟨rfl, by decide, by decide⟩

theorem slaB : Statement .slaB := ⟨rfl, by decide, by decide⟩

theorem slaC : Statement .slaC := ⟨rfl, by decide, by decide⟩

theorem slaD : Statement .slaD := ⟨rfl, by decide, by decide⟩

theorem slaE : Statement .slaE := ⟨rfl, by decide, by decide⟩

theorem slaH : Statement .slaH := ⟨rfl, by decide, by decide⟩

theorem slaL : Statement .slaL := ⟨rfl, by decide, by decide⟩

theorem slaIndHl : Statement .slaIndHl := ⟨rfl, by decide, by decide⟩

theorem slaA : Statement .slaA := ⟨rfl, by decide, by decide⟩

theorem sraB : Statement .sraB := ⟨rfl, by decide, by decide⟩

theorem sraC : Statement .sraC := ⟨rfl, by decide, by decide⟩

theorem sraD : Statement .sraD := ⟨rfl, by decide, by decide⟩

theorem sraE : Statement .sraE := ⟨rfl, by decide, by decide⟩

theorem sraH : Statement .sraH := ⟨rfl, by decide, by decide⟩

theorem sraL : Statement .sraL := ⟨rfl, by decide, by decide⟩

theorem sraIndHl : Statement .sraIndHl := ⟨rfl, by decide, by decide⟩

theorem sraA : Statement .sraA := ⟨rfl, by decide, by decide⟩

theorem swapB : Statement .swapB := ⟨rfl, by decide, by decide⟩

theorem swapC : Statement .swapC := ⟨rfl, by decide, by decide⟩

theorem swapD : Statement .swapD := ⟨rfl, by decide, by decide⟩

theorem swapE : Statement .swapE := ⟨rfl, by decide, by decide⟩

theorem swapH : Statement .swapH := ⟨rfl, by decide, by decide⟩

theorem swapL : Statement .swapL := ⟨rfl, by decide, by decide⟩

theorem swapIndHl : Statement .swapIndHl := ⟨rfl, by decide, by decide⟩

theorem swapA : Statement .swapA := ⟨rfl, by decide, by decide⟩

theorem srlB : Statement .srlB := ⟨rfl, by decide, by decide⟩

theorem srlC : Statement .srlC := ⟨rfl, by decide, by decide⟩

theorem srlD : Statement .srlD := ⟨rfl, by decide, by decide⟩

theorem srlE : Statement .srlE := ⟨rfl, by decide, by decide⟩

theorem srlH : Statement .srlH := ⟨rfl, by decide, by decide⟩

theorem srlL : Statement .srlL := ⟨rfl, by decide, by decide⟩

theorem srlIndHl : Statement .srlIndHl := ⟨rfl, by decide, by decide⟩

theorem srlA : Statement .srlA := ⟨rfl, by decide, by decide⟩

theorem bit0B : Statement .bit0B := ⟨rfl, by decide, by decide⟩

theorem bit0C : Statement .bit0C := ⟨rfl, by decide, by decide⟩

theorem bit0D : Statement .bit0D := ⟨rfl, by decide, by decide⟩

theorem bit0E : Statement .bit0E := ⟨rfl, by decide, by decide⟩

theorem bit0H : Statement .bit0H := ⟨rfl, by decide, by decide⟩

theorem bit0L : Statement .bit0L := ⟨rfl, by decide, by decide⟩

theorem bit0IndHl : Statement .bit0IndHl := ⟨rfl, by decide, by decide⟩

theorem bit0A : Statement .bit0A := ⟨rfl, by decide, by decide⟩

theorem bit1B : Statement .bit1B := ⟨rfl, by decide, by decide⟩

theorem bit1C : Statement .bit1C := ⟨rfl, by decide, by decide⟩

theorem bit1D : Statement .bit1D := ⟨rfl, by decide, by decide⟩

theorem bit1E : Statement .bit1E := ⟨rfl, by decide, by decide⟩

theorem bit1H : Statement .bit1H := ⟨rfl, by decide, by decide⟩

theorem bit1L : Statement .bit1L := ⟨rfl, by decide, by decide⟩

theorem bit1IndHl : Statement .bit1IndHl := ⟨rfl, by decide, by decide⟩

theorem bit1A : Statement .bit1A := ⟨rfl, by decide, by decide⟩

theorem bit2B : Statement .bit2B := ⟨rfl, by decide, by decide⟩

theorem bit2C : Statement .bit2C := ⟨rfl, by decide, by decide⟩

theorem bit2D : Statement .bit2D := ⟨rfl, by decide, by decide⟩

theorem bit2E : Statement .bit2E := ⟨rfl, by decide, by decide⟩

theorem bit2H : Statement .bit2H := ⟨rfl, by decide, by decide⟩

theorem bit2L : Statement .bit2L := ⟨rfl, by decide, by decide⟩

theorem bit2IndHl : Statement .bit2IndHl := ⟨rfl, by decide, by decide⟩

theorem bit2A : Statement .bit2A := ⟨rfl, by decide, by decide⟩

theorem bit3B : Statement .bit3B := ⟨rfl, by decide, by decide⟩

theorem bit3C : Statement .bit3C := ⟨rfl, by decide, by decide⟩

theorem bit3D : Statement .bit3D := ⟨rfl, by decide, by decide⟩

theorem bit3E : Statement .bit3E := ⟨rfl, by decide, by decide⟩

theorem bit3H : Statement .bit3H := ⟨rfl, by decide, by decide⟩

theorem bit3L : Statement .bit3L := ⟨rfl, by decide, by decide⟩

theorem bit3IndHl : Statement .bit3IndHl := ⟨rfl, by decide, by decide⟩

theorem bit3A : Statement .bit3A := ⟨rfl, by decide, by decide⟩

theorem bit4B : Statement .bit4B := ⟨rfl, by decide, by decide⟩

theorem bit4C : Statement .bit4C := ⟨rfl, by decide, by decide⟩

theorem bit4D : Statement .bit4D := ⟨rfl, by decide, by decide⟩

theorem bit4E : Statement .bit4E := ⟨rfl, by decide, by decide⟩

theorem bit4H : Statement .bit4H := ⟨rfl, by decide, by decide⟩

theorem bit4L : Statement .bit4L := ⟨rfl, by decide, by decide⟩

theorem bit4IndHl : Statement .bit4IndHl := ⟨rfl, by decide, by decide⟩

theorem bit4A : Statement .bit4A := ⟨rfl, by decide, by decide⟩

theorem bit5B : Statement .bit5B := ⟨rfl, by decide, by decide⟩

theorem bit5C : Statement .bit5C := ⟨rfl, by decide, by decide⟩

theorem bit5D : Statement .bit5D := ⟨rfl, by decide, by decide⟩

theorem bit5E : Statement .bit5E := ⟨rfl, by decide, by decide⟩

theorem bit5H : Statement .bit5H := ⟨rfl, by decide, by decide⟩

theorem bit5L : Statement .bit5L := ⟨rfl, by decide, by decide⟩

theorem bit5IndHl : Statement .bit5IndHl := ⟨rfl, by decide, by decide⟩

theorem bit5A : Statement .bit5A := ⟨rfl, by decide, by decide⟩

theorem bit6B : Statement .bit6B := ⟨rfl, by decide, by decide⟩

theorem bit6C : Statement .bit6C := ⟨rfl, by decide, by decide⟩

theorem bit6D : Statement .bit6D := ⟨rfl, by decide, by decide⟩

theorem bit6E : Statement .bit6E := ⟨rfl, by decide, by decide⟩

theorem bit6H : Statement .bit6H := ⟨rfl, by decide, by decide⟩

theorem bit6L : Statement .bit6L := ⟨rfl, by decide, by decide⟩

theorem bit6IndHl : Statement .bit6IndHl := ⟨rfl, by decide, by decide⟩

theorem bit6A : Statement .bit6A := ⟨rfl, by decide, by decide⟩

theorem bit7B : Statement .bit7B := ⟨rfl, by decide, by decide⟩

theorem bit7C : Statement .bit7C := ⟨rfl, by decide, by decide⟩

theorem bit7D : Statement .bit7D := ⟨rfl, by decide, by decide⟩

theorem bit7E : Statement .bit7E := ⟨rfl, by decide, by decide⟩

theorem bit7H : Statement .bit7H := ⟨rfl, by decide, by decide⟩

theorem bit7L : Statement .bit7L := ⟨rfl, by decide, by decide⟩

theorem bit7IndHl : Statement .bit7IndHl := ⟨rfl, by decide, by decide⟩

theorem bit7A : Statement .bit7A := ⟨rfl, by decide, by decide⟩

theorem res0B : Statement .res0B := ⟨rfl, by decide, by decide⟩

theorem res0C : Statement .res0C := ⟨rfl, by decide, by decide⟩

theorem res0D : Statement .res0D := ⟨rfl, by decide, by decide⟩

theorem res0E : Statement .res0E := ⟨rfl, by decide, by decide⟩

theorem res0H : Statement .res0H := ⟨rfl, by decide, by decide⟩

theorem res0L : Statement .res0L := ⟨rfl, by decide, by decide⟩

theorem res0IndHl : Statement .res0IndHl := ⟨rfl, by decide, by decide⟩

theorem res0A : Statement .res0A := ⟨rfl, by decide, by decide⟩

theorem res1B : Statement .res1B := ⟨rfl, by decide, by decide⟩

theorem res1C : Statement .res1C := ⟨rfl, by decide, by decide⟩

theorem res1D : Statement .res1D := ⟨rfl, by decide, by decide⟩

theorem res1E : Statement .res1E := ⟨rfl, by decide, by decide⟩

theorem res1H : Statement .res1H := ⟨rfl, by decide, by decide⟩

theorem res1L : Statement .res1L := ⟨rfl, by decide, by decide⟩

theorem res1IndHl : Statement .res1IndHl := ⟨rfl, by decide, by decide⟩

theorem res1A : Statement .res1A := ⟨rfl, by decide, by decide⟩

theorem res2B : Statement .res2B := ⟨rfl, by decide, by decide⟩

theorem res2C : Statement .res2C := ⟨rfl, by decide, by decide⟩

theorem res2D : Statement .res2D := ⟨rfl, by decide, by decide⟩

theorem res2E : Statement .res2E := ⟨rfl, by decide, by decide⟩

theorem res2H : Statement .res2H := ⟨rfl, by decide, by decide⟩

theorem res2L : Statement .res2L := ⟨rfl, by decide, by decide⟩

theorem res2IndHl : Statement .res2IndHl := ⟨rfl, by decide, by decide⟩

theorem res2A : Statement .res2A := ⟨rfl, by decide, by decide⟩

theorem res3B : Statement .res3B := ⟨rfl, by decide, by decide⟩

theorem res3C : Statement .res3C := ⟨rfl, by decide, by decide⟩

theorem res3D : Statement .res3D := ⟨rfl, by decide, by decide⟩

theorem res3E : Statement .res3E := ⟨rfl, by decide, by decide⟩

theorem res3H : Statement .res3H := ⟨rfl, by decide, by decide⟩

theorem res3L : Statement .res3L := ⟨rfl, by decide, by decide⟩

theorem res3IndHl : Statement .res3IndHl := ⟨rfl, by decide, by decide⟩

theorem res3A : Statement .res3A := ⟨rfl, by decide, by decide⟩

theorem res4B : Statement .res4B := ⟨rfl, by decide, by decide⟩

theorem res4C : Statement .res4C := ⟨rfl, by decide, by decide⟩

theorem res4D : Statement .res4D := ⟨rfl, by decide, by decide⟩

theorem res4E : Statement .res4E := ⟨rfl, by decide, by decide⟩

theorem res4H : Statement .res4H := ⟨rfl, by decide, by decide⟩

theorem res4L : Statement .res4L := ⟨rfl, by decide, by decide⟩

theorem res4IndHl : Statement .res4IndHl := ⟨rfl, by decide, by decide⟩

theorem res4A : Statement .res4A := ⟨rfl, by decide, by decide⟩

theorem res5B : Statement .res5B := ⟨rfl, by decide, by decide⟩

theorem res5C : Statement .res5C := ⟨rfl, by decide, by decide⟩

theorem res5D : Statement .res5D := ⟨rfl, by decide, by decide⟩

theorem res5E : Statement .res5E := ⟨rfl, by decide, by decide⟩

theorem res5H : Statement .res5H := ⟨rfl, by decide, by decide⟩

theorem res5L : Statement .res5L := ⟨rfl, by decide, by decide⟩

theorem res5IndHl : Statement .res5IndHl := ⟨rfl, by decide, by decide⟩

theorem res5A : Statement .res5A := ⟨rfl, by decide, by decide⟩

theorem res6B : Statement .res6B := ⟨rfl, by decide, by decide⟩

theorem res6C : Statement .res6C := ⟨rfl, by decide, by decide⟩

theorem res6D : Statement .res6D := ⟨rfl, by decide, by decide⟩

theorem res6E : Statement .res6E := ⟨rfl, by decide, by decide⟩

theorem res6H : Statement .res6H := ⟨rfl, by decide, by decide⟩

theorem res6L : Statement .res6L := ⟨rfl, by decide, by decide⟩

theorem res6IndHl : Statement .res6IndHl := ⟨rfl, by decide, by decide⟩

theorem res6A : Statement .res6A := ⟨rfl, by decide, by decide⟩

theorem res7B : Statement .res7B := ⟨rfl, by decide, by decide⟩

theorem res7C : Statement .res7C := ⟨rfl, by decide, by decide⟩

theorem res7D : Statement .res7D := ⟨rfl, by decide, by decide⟩

theorem res7E : Statement .res7E := ⟨rfl, by decide, by decide⟩

theorem res7H : Statement .res7H := ⟨rfl, by decide, by decide⟩

theorem res7L : Statement .res7L := ⟨rfl, by decide, by decide⟩

theorem res7IndHl : Statement .res7IndHl := ⟨rfl, by decide, by decide⟩

theorem res7A : Statement .res7A := ⟨rfl, by decide, by decide⟩

theorem set0B : Statement .set0B := ⟨rfl, by decide, by decide⟩

theorem set0C : Statement .set0C := ⟨rfl, by decide, by decide⟩

theorem set0D : Statement .set0D := ⟨rfl, by decide, by decide⟩

theorem set0E : Statement .set0E := ⟨rfl, by decide, by decide⟩

theorem set0H : Statement .set0H := ⟨rfl, by decide, by decide⟩

theorem set0L : Statement .set0L := ⟨rfl, by decide, by decide⟩

theorem set0IndHl : Statement .set0IndHl := ⟨rfl, by decide, by decide⟩

theorem set0A : Statement .set0A := ⟨rfl, by decide, by decide⟩

theorem set1B : Statement .set1B := ⟨rfl, by decide, by decide⟩

theorem set1C : Statement .set1C := ⟨rfl, by decide, by decide⟩

theorem set1D : Statement .set1D := ⟨rfl, by decide, by decide⟩

theorem set1E : Statement .set1E := ⟨rfl, by decide, by decide⟩

theorem set1H : Statement .set1H := ⟨rfl, by decide, by decide⟩

theorem set1L : Statement .set1L := ⟨rfl, by decide, by decide⟩

theorem set1IndHl : Statement .set1IndHl := ⟨rfl, by decide, by decide⟩

theorem set1A : Statement .set1A := ⟨rfl, by decide, by decide⟩

theorem set2B : Statement .set2B := ⟨rfl, by decide, by decide⟩

theorem set2C : Statement .set2C := ⟨rfl, by decide, by decide⟩

theorem set2D : Statement .set2D := ⟨rfl, by decide, by decide⟩

theorem set2E : Statement .set2E := ⟨rfl, by decide, by decide⟩

theorem set2H : Statement .set2H := ⟨rfl, by decide, by decide⟩

theorem set2L : Statement .set2L := ⟨rfl, by decide, by decide⟩

theorem set2IndHl : Statement .set2IndHl := ⟨rfl, by decide, by decide⟩

theorem set2A : Statement .set2A := ⟨rfl, by decide, by decide⟩

theorem set3B : Statement .set3B := ⟨rfl, by decide, by decide⟩

theorem set3C : Statement .set3C := ⟨rfl, by decide, by decide⟩

theorem set3D : Statement .set3D := ⟨rfl, by decide, by decide⟩

theorem set3E : Statement .set3E := ⟨rfl, by decide, by decide⟩

theorem set3H : Statement .set3H := ⟨rfl, by decide, by decide⟩

theorem set3L : Statement .set3L := ⟨rfl, by decide, by decide⟩

theorem set3IndHl : Statement .set3IndHl := ⟨rfl, by decide, by decide⟩

theorem set3A : Statement .set3A := ⟨rfl, by decide, by decide⟩

theorem set4B : Statement .set4B := ⟨rfl, by decide, by decide⟩

theorem set4C : Statement .set4C := ⟨rfl, by decide, by decide⟩

theorem set4D : Statement .set4D := ⟨rfl, by decide, by decide⟩

theorem set4E : Statement .set4E := ⟨rfl, by decide, by decide⟩

theorem set4H : Statement .set4H := ⟨rfl, by decide, by decide⟩

theorem set4L : Statement .set4L := ⟨rfl, by decide, by decide⟩

theorem set4IndHl : Statement .set4IndHl := ⟨rfl, by decide, by decide⟩

theorem set4A : Statement .set4A := ⟨rfl, by decide, by decide⟩

theorem set5B : Statement .set5B := ⟨rfl, by decide, by decide⟩

theorem set5C : Statement .set5C := ⟨rfl, by decide, by decide⟩

theorem set5D : Statement .set5D := ⟨rfl, by decide, by decide⟩

theorem set5E : Statement .set5E := ⟨rfl, by decide, by decide⟩

theorem set5H : Statement .set5H := ⟨rfl, by decide, by decide⟩

theorem set5L : Statement .set5L := ⟨rfl, by decide, by decide⟩

theorem set5IndHl : Statement .set5IndHl := ⟨rfl, by decide, by decide⟩

theorem set5A : Statement .set5A := ⟨rfl, by decide, by decide⟩

theorem set6B : Statement .set6B := ⟨rfl, by decide, by decide⟩

theorem set6C : Statement .set6C := ⟨rfl, by decide, by decide⟩

theorem set6D : Statement .set6D := ⟨rfl, by decide, by decide⟩

theorem set6E : Statement .set6E := ⟨rfl, by decide, by decide⟩

theorem set6H : Statement .set6H := ⟨rfl, by decide, by decide⟩

theorem set6L : Statement .set6L := ⟨rfl, by decide, by decide⟩

theorem set6IndHl : Statement .set6IndHl := ⟨rfl, by decide, by decide⟩

theorem set6A : Statement .set6A := ⟨rfl, by decide, by decide⟩

theorem set7B : Statement .set7B := ⟨rfl, by decide, by decide⟩

theorem set7C : Statement .set7C := ⟨rfl, by decide, by decide⟩

theorem set7D : Statement .set7D := ⟨rfl, by decide, by decide⟩

theorem set7E : Statement .set7E := ⟨rfl, by decide, by decide⟩

theorem set7H : Statement .set7H := ⟨rfl, by decide, by decide⟩

theorem set7L : Statement .set7L := ⟨rfl, by decide, by decide⟩

theorem set7IndHl : Statement .set7IndHl := ⟨rfl, by decide, by decide⟩

theorem set7A : Statement .set7A := ⟨rfl, by decide, by decide⟩

end Sys2Proof.Laws.FormView
end

