-- ==== Sys2Proof/Laws/Run.lean ====
section
/-! SUPPORT. What a run does, one step at a time. -/

namespace Sys2Proof.Machine

@[simp] theorem runUntil_zero (ends : EndOfRun) (s : State) : runUntil ends 0 s = .next (false, s) := rfl

/-- A run that makes a step ends with it or goes on from the state it left (R343). -/
theorem runUntil_succ (ends : EndOfRun) (n : Nat) (s t : State) (h : step s = .next t) :
    runUntil ends (n + 1) s =
      if ends s.takeInput.1 s.takeInput.2 t then .next (true, t) else runUntil ends n t := by
  simp only [runUntil, h]

@[simp] theorem coreRun_zero (s : State) : core.run 0 s = .next s := rfl

/-- `n + 1` steps of the machine are one step and then `n`. -/
theorem coreRun_succ (n : Nat) (s t : State) (h : step s = .next t) : core.run (n + 1) s = core.run n t := by
  have general : ∀ (M : Host.Core) (u v : M.State), M.step u = .next v → M.run (n + 1) u = M.run n v := by
    intro M u v hu
    simp only [Host.Core.run, hu]
  exact general core s t h

end Sys2Proof.Machine
end

