-- ==== Sys2Proof/Tests/Slice0.lean ====
section
/-! SUPPORT. Tests: the check of WellFormed, and single steps of the engine, the interrupts and the bank controller with the
results spec/95_test_vectors.md gives; and the helpers of the other test files. -/

namespace Sys2Proof.Tests

open Machine

/-! ### WellFormed -/

/-- R276: the prefix alone is no instruction; every other constructor is. -/
theorem test_wellFormed_refuses_bare_prefix : Instr.prefixCb.wellFormed = false := by decide

theorem test_wellFormed_accepts :
    Instr.nop.wellFormed = true ∧ (Instr.ldBcNn 0x1234).wellFormed = true ∧ Instr.set7A.wellFormed = true ∧
      Instr.illegalDD.wellFormed = true := by decide

/-! ### Helpers -/

/-- The start state of the vectors: after reset, PC at C000. -/
def start : State := { State.reset with pc := 0xC000 }

/-- One byte placed in memory. -/
def poke (s : State) (a : Word) (v : Byte) : State := { s with bus := s.bus.poke a v }

/-- Bytes placed at an address, with PC there. -/
def code (at_ : Word) (bytes : List Byte) (s : State) : State :=
  { s with pc := at_, bus := s.bus.pokeBytes at_ bytes }

/-- The state one step leaves. -/
def next (s : State) : State :=
  match step s with
  | .next t => t
  | .fault _ => s
  | .refused _ => s

/-- What one step from the placed bytes leaves, seen through `f`. -/
def after {α : Type} (at_ : Word) (bytes : List Byte) (s : State) (f : State → α) : Option α :=
  match step (code at_ bytes s) with
  | .next t => some (f t)
  | .fault _ => none
  | .refused _ => none

/-- IE and IF set. -/
def requests (s : State) (ie iff : Byte) : State := { poke s 0xFF0F iff with bus.ie := ie }

/-! ### The engine (60_exceptions R290 to R298, 46_system) -/

/-- Y.2 (R273): `DI` takes effect at once and cancels a delayed enable. -/
theorem test_di :
    after 0xC000 [0xF3] { start with ime := true, imePending := true } (fun t => (t.ime, t.imePending, t.pc)) =
      some (false, false, 0xC001) := by decide

/-- Y.3, Y.4 (R274, R292): `EI` arms; the next instruction's step sets IME at its end. -/
theorem test_ei :
    after 0xC000 [0xFB] start (fun t => (t.ime, t.imePending)) = some (false, true) ∧
      after 0xC000 [0x00] { start with imePending := true } (fun t => (t.ime, t.imePending)) =
        some (true, false) := by decide

/-- Y.8 (R271): `HALT` with nothing pending. -/
theorem test_halt :
    after 0xC000 [0x76] (requests start 0x01 0x00) (fun t => (t.mode, t.haltBug, t.pc, t.cycles)) =
      some (.halted, false, 0xC001, 4) := by decide

/-- Y.9 (R271, R291): `HALT` with IME 0 and a pending source arms the halt bug; the next opcode is read twice. -/
theorem test_halt_bug :
    after 0xC000 [0x76] (requests start 0x01 0x01) (fun t => (t.mode, t.haltBug)) = some (.running, true) ∧
      after 0xC001 [0x3C] { start with a := 0x00, haltBug := true } (fun t => (t.a, t.pc, t.haltBug)) =
        some (0x01, 0xC001, false) := by decide

/-- Y.10 (R291): with the halt bug `06 04` loads B with 06, the opcode's own byte. -/
theorem test_halt_bug_operand :
    after 0xC001 [0x06, 0x04] { start with haltBug := true } (fun t => (t.b, t.pc)) = some (0x06, 0xC002) := by decide

/-- Y.14, Y.17 (R272, R293): `STOP` skips the byte after it; a pending source does not end Stopped, `wake` does. -/
theorem test_stop :
    after 0xC000 [0x10, 0x55] (requests start 0x01 0x01) (fun t => (t.mode, t.pc, t.cycles)) =
        some (.stopped, 0xC002, 4) ∧
      after 0xC000 [0x3C] { requests start 0x01 0x01 with mode := .stopped } (fun t => (t.mode, t.a, t.cycles)) =
        some (.stopped, 0x01, 4) ∧
      after 0xC000 [0x3C] { start with mode := .stopped, inputs := [{ wake := true }] } (fun t => (t.mode, t.a)) =
        some (.running, 0x02) := by decide

/-- Y.18 (R275, R295): an illegal opcode locks the engine. -/
theorem test_illegal :
    after 0xC000 [0xDD, 0x3C] (requests start 0x01 0x01) (fun t => (t.mode, t.pc, t.cycles)) =
        some (.locked, 0xC001, 4) ∧
      after 0xC001 [0x3C] { start with mode := .locked } (fun t => (t.mode, t.pc, t.a)) =
        some (.locked, 0xC001, 0x01) := by decide

/-- N1.1, N1.2 (R297, R298): the lowest pending source is dispatched. -/
theorem test_dispatch :
    after 0xC123 [0x00] { requests start 0x1F 0x1F with ime := true, sp := 0xD000 }
        (fun t => (t.pc, t.busRead 0xCFFF, t.busRead 0xCFFE, t.ifReg, t.ime, t.cycles)) =
      some (0x0040, 0xC1, 0x23, 0x1E, false, 20) := by decide

/-- N1.6, N1.7 (R296): bits 5 to 7 of IE and IF take no part and are kept. -/
theorem test_pending_mask :
    after 0xC123 [0x00] { requests start 0xFF 0xE8 with ime := true, sp := 0xD000 } (fun t => (t.pc, t.ifReg)) =
        some (0x0058, 0xE0) ∧
      after 0xC123 [0x00] { requests start 0xE0 0xE0 with ime := true } (fun t => (t.pc, t.ime)) =
        some (0xC124, true) := by decide

/-- Y.12 (R298): a dispatch with the halt bug armed pushes HALT's own address. -/
theorem test_dispatch_halt_bug :
    after 0xC002 [0x00] { requests start 0x01 0x01 with ime := true, haltBug := true }
        (fun t => (t.pc, t.busRead16 0xFFFC, t.haltBug)) =
      some (0x0040, 0xC001, false) := by decide

/-- R276: the prefix's own meaning fetches the second opcode byte: at C000 stands 37, `SWAP A`. -/
theorem test_bare_prefix :
    exec .prefixCb (code 0xC000 [0x37] { start with a := 0xF1 }) =
      .next { code 0xC000 [0x37] start with a := 0x1F, f := 0x00, pc := 0xC001, cycles := 8 } := by rfl

/-! ### The bank controller -/

/-- A machine with a cartridge: banks marked by their number at the start of the switchable window. -/
def withCart (kind : MbcKind) (sizeCode : Fin 9) (ramBanks : Fin 17) (marks : List Nat) : State :=
  { State.reset with
    bus.cart :=
      { kind := kind, sizeCode := sizeCode, ramBanks := ramBanks
        rom := marks.map fun b => (b * 0x4000, BitVec.ofNat 8 b) } }

/-- Bus writes in order. -/
def writes (s : State) (ws : List (Word × Byte)) : State := ws.foldl (fun s w => s.busWrite w.1 w.2) s

/-- M1.3, M1.5, M1.7 (R77, R74): MBC1 with 8 banks: a bank, the coerced 0, the clamp. -/
theorem test_mbc1 :
    (writes (withCart .mbc1 2 0 [1, 5, 7]) [(0x2000, 0x05)]).busRead 0x4000 = 0x05 ∧
      (writes (withCart .mbc1 2 0 [1, 5, 7]) [(0x2000, 0x08)]).busRead 0x4000 = 0x01 ∧
      (writes (withCart .mbc1 2 0 [1, 5, 7]) [(0x2000, 0x03), (0x4000, 0x01)]).busRead 0x4000 = 0x07 := by decide

/-- M1.8, M1.9, M1.11 (R77): MBC1 with 128 banks: `aux` above `romLow`, and banking mode 1. -/
theorem test_mbc1_aux :
    (writes (withCart .mbc1 6 0 [3, 0x23, 0x41]) [(0x2000, 0x03), (0x4000, 0x01)]).busRead 0x4000 = 0x23 ∧
      (writes (withCart .mbc1 6 0 [3, 0x23, 0x41]) [(0x2000, 0x00), (0x4000, 0x02)]).busRead 0x4000 = 0x41 ∧
      (writes (withCart .mbc1 6 0 [3, 0x23, 0x41]) [(0x2000, 0x03), (0x4000, 0x01), (0x6000, 0x01)]).busRead 0x4000 =
        0x03 := by decide

/-- M3.1, M3.2, M3.4 (R78). -/
theorem test_mbc3 :
    (writes (withCart .mbc3 6 0 [1, 0x7F]) [(0x2000, 0x7F)]).busRead 0x4000 = 0x7F ∧
      (writes (withCart .mbc3 6 0 [1, 0x7F]) [(0x2000, 0x80)]).busRead 0x4000 = 0x01 ∧
      (writes (withCart .mbc3 3 0 [1, 5]) [(0x2000, 0x35)]).busRead 0x4000 = 0x05 := by decide

/-- M5.2, M5.4, M5.5 (R79). -/
theorem test_mbc5 :
    (writes (withCart .mbc5 8 0 []) [(0x2000, 0xFF), (0x3000, 0xFF)]).bus.effRomBank = 0x1FF ∧
      (writes (withCart .mbc5 5 0 [1, 5]) [(0x2000, 0x45)]).busRead 0x4000 = 0x05 ∧
      (writes (withCart .mbc5 5 0 [1, 5]) [(0x2000, 0x40)]).busRead 0x4000 = 0x01 := by decide

/-- M0.1 (R76): a ROM-only cartridge ignores control writes and has no external RAM. -/
theorem test_rom_only :
    (writes (withCart .romOnly 0 1 [1]) [(0x0000, 0x0A), (0x2000, 0x00), (0xA000, 0x55)]).busRead 0x4000 = 0x01 ∧
      (writes (withCart .romOnly 0 1 [1]) [(0x0000, 0x0A), (0xA000, 0x55)]).busRead 0xA000 = 0xFF := by decide

/-- R80: external RAM answers only while it is enabled. -/
theorem test_external_ram :
    (writes (withCart .mbc1 0 1 []) [(0x0000, 0x0A), (0xA000, 0x55)]).busRead 0xA000 = 0x55 ∧
      (writes (withCart .mbc1 0 1 []) [(0xA000, 0x55)]).busRead 0xA000 = 0xFF ∧
      (writes (withCart .mbc1 0 1 []) [(0x1FFF, 0x1A), (0xBFFF, 0x55), (0x0000, 0x00)]).busRead 0xBFFF = 0xFF := by
  decide

/-! ### Placing the next instruction -/

/-- `withFetchWord` makes the very next step run the instruction: `INC A` (3C) after reset. -/
theorem test_withFetchWord :
    (next (State.reset.withFetchWord 8 0x3C)).a = 0x02 ∧ (next (State.reset.withFetchWord 16 0xCB37)).a = 0x10 := by
  decide

end Sys2Proof.Tests
end

