-- ==== Sys2Proof/Tests/Steps.lean ====
section
/-! SUPPORT. Single-step tests: vectors of spec/95_test_vectors.md, part 2, by their numbers there, with the results they
give. Each places the bytes, makes one step and looks at the fields the vector names, PC and the returned count. -/

namespace Sys2Proof.Tests

open Machine

/-- L8.1 (R121): `LD B,C`. -/
theorem test_L8_1 :
    after 0xC000 [0x41] { start with c := 0x5A } (fun t => (t.b, t.pc, t.cycles)) =
      some (0x5A, 0xC001, 4) := by decide

/-- L8.3 (R122): `LD D,n`. -/
theorem test_L8_3 :
    after 0xC000 [0x16, 0xFF] start (fun t => (t.d, t.pc, t.cycles)) =
      some (0xFF, 0xC002, 8) := by decide

/-- L8.4 (R123): `LD L,(HL)`. -/
theorem test_L8_4 :
    after 0xC000 [0x6E] (poke { start with h := 0xC1, l := 0x23 } 0xC123 0x77) (fun t => (t.l, t.pc, t.cycles)) =
      some (0x77, 0xC001, 8) := by decide

/-- L8.5 (R124): `LD (HL),H`. -/
theorem test_L8_5 :
    after 0xC000 [0x74] { start with h := 0xD0, l := 0xAB } (fun t => (t.busRead 0xD0AB, t.pc, t.cycles)) =
      some (0xD0, 0xC001, 8) := by decide

/-- L8.6 (R125, R56, R76): `LD (HL),n` into ROM. -/
theorem test_L8_6 :
    after 0xC000 [0x36, 0x55] { start with h := 0x20, l := 0x00 } (fun t => (t.pc, t.cycles)) =
      some (0xC002, 12) := by decide

/-- L8.8 (R125, R59): `LD (HL),n` into echo. -/
theorem test_L8_8 :
    after 0xC000 [0x36, 0x55] { start with h := 0xE0, l := 0x10 }
      (fun t => (t.busRead 0xE010, t.busRead 0xC010, t.pc, t.cycles)) =
      some (0x55, 0x55, 0xC002, 12) := by decide

/-- L8.9 (R126, R64): `LD A,(BC)` reads IE. -/
theorem test_L8_9 :
    after 0xC000 [0x0A] { start with b := 0xFF, c := 0xFF, bus.ie := 0x1F } (fun t => (t.a, t.pc, t.cycles)) =
      some (0x1F, 0xC001, 8) := by decide

/-- L8.10 (R129, R57): `LD (DE),A` into video RAM. -/
theorem test_L8_10 :
    after 0xC000 [0x12] { start with d := 0x80, e := 0x00, a := 0x99 } (fun t => (t.busRead 0x8000, t.pc, t.cycles)) =
      some (0x99, 0xC001, 8) := by decide

/-- L8.11 (R130): `LD A,(nn)`. -/
theorem test_L8_11 :
    after 0xC000 [0xFA, 0x34, 0xC2] (poke start 0xC234 0xAB) (fun t => (t.a, t.pc, t.cycles)) =
      some (0xAB, 0xC003, 16) := by decide

/-- L8.12 (R131, R28): `LD (nn),A` writes IE. -/
theorem test_L8_12 :
    after 0xC000 [0xEA, 0xFF, 0xFF] { start with a := 0xE5 } (fun t => (t.bus.ie, t.pc, t.cycles)) =
      some (0xE5, 0xC003, 16) := by decide

/-- L8.13 (R133): `LDH (n),A`. -/
theorem test_L8_13 :
    after 0xC000 [0xE0, 0x80] { start with a := 0x42 } (fun t => (t.busRead 0xFF80, t.pc, t.cycles)) =
      some (0x42, 0xC002, 12) := by decide

/-- L8.14 (R132): `LDH A,(n)` reads IE. -/
theorem test_L8_14 :
    after 0xC000 [0xF0, 0xFF] { start with bus.ie := 0x15 } (fun t => (t.a, t.pc, t.cycles)) =
      some (0x15, 0xC002, 12) := by decide

/-- L8.16 (R135): `LDH (C),A`. -/
theorem test_L8_16 :
    after 0xC000 [0xE2] { start with c := 0x90, a := 0x3C } (fun t => (t.busRead 0xFF90, t.pc, t.cycles)) =
      some (0x3C, 0xC001, 8) := by decide

/-- L8.17 (R134): `LDH A,(C)`. -/
theorem test_L8_17 :
    after 0xC000 [0xF2] (poke { start with c := 0x90, a := 0x00 } 0xFF90 0x3C) (fun t => (t.a, t.pc, t.cycles)) =
      some (0x3C, 0xC001, 8) := by decide

/-- L8.18 (R136): `LD (HL+),A` wraps. -/
theorem test_L8_18 :
    after 0xC000 [0x22] { start with h := 0xFF, l := 0xFF, a := 0x07 } (fun t => (t.bus.ie, t.hl, t.pc, t.cycles)) =
      some (0x07, 0x0000, 0xC001, 8) := by decide

/-- L8.20 (R138): `LD A,(HL+)`. -/
theorem test_L8_20 :
    after 0xC000 [0x2A] (poke { start with h := 0xC0, l := 0xFF } 0xC0FF 0x21)
      (fun t => (t.a, t.hl, t.pc, t.cycles)) =
      some (0x21, 0xC100, 0xC001, 8) := by decide

/-- L8.21 (R139): `LD A,(HL-)`. -/
theorem test_L8_21 :
    after 0xC000 [0x3A] (poke { start with h := 0xC1, l := 0x00 } 0xC100 0x22)
      (fun t => (t.a, t.hl, t.pc, t.cycles)) =
      some (0x22, 0xC0FF, 0xC001, 8) := by decide

/-- L16.1 (R152): `LD SP,nn`. -/
theorem test_L16_1 :
    after 0xC000 [0x31, 0xFE, 0xFF] { start with sp := 0x0000 } (fun t => (t.sp, t.pc, t.cycles)) =
      some (0xFFFE, 0xC003, 12) := by decide

/-- L16.3 (R153): `LD (nn),SP`. -/
theorem test_L16_3 :
    after 0xC000 [0x08, 0x00, 0xC1] { start with sp := 0xBEEF }
      (fun t => (t.busRead 0xC100, t.busRead 0xC101, t.pc, t.cycles)) =
      some (0xEF, 0xBE, 0xC003, 20) := by decide

/-- L16.5 (R154): `LD SP,HL`. -/
theorem test_L16_5 :
    after 0xC000 [0xF9] { start with h := 0xD0, l := 0x00 } (fun t => (t.sp, t.pc, t.cycles)) =
      some (0xD000, 0xC001, 8) := by decide

/-- L16.6 (R155): `LD HL,SP+e`. -/
theorem test_L16_6 :
    after 0xC000 [0xF8, 0x02] { start with sp := 0xFFF8, f := 0xF0 } (fun t => (t.hl, t.f, t.pc, t.cycles)) =
      some (0xFFFA, 0x00, 0xC002, 12) := by decide

/-- L16.9 (R155): `LD HL,SP+e`, e = −128. -/
theorem test_L16_9 :
    after 0xC000 [0xF8, 0x80] { start with sp := 0x0080 } (fun t => (t.hl, t.f, t.pc, t.cycles)) =
      some (0x0000, 0x10, 0xC002, 12) := by decide

/-- L16.10 (R156): `PUSH BC`. -/
theorem test_L16_10 :
    after 0xC000 [0xC5] { start with b := 0xBE, c := 0xEF, sp := 0xFFFE }
      (fun t => (t.sp, t.busRead 0xFFFD, t.busRead 0xFFFC, t.pc, t.cycles)) =
      some (0xFFFC, 0xBE, 0xEF, 0xC001, 16) := by decide

/-- L16.11 (R157): `POP DE`. -/
theorem test_L16_11 :
    after 0xC000 [0xD1] (poke (poke { start with sp := 0xFFFC } 0xFFFC 0xEF) 0xFFFD 0xBE)
      (fun t => (t.de, t.sp, t.pc, t.cycles)) =
      some (0xBEEF, 0xFFFE, 0xC001, 12) := by decide

/-- L16.12 (R156): `PUSH AF`. -/
theorem test_L16_12 :
    after 0xC000 [0xF5] { start with a := 0x12, f := 0xB0, sp := 0xD000 }
      (fun t => (t.sp, t.busRead 0xCFFF, t.busRead 0xCFFE, t.pc, t.cycles)) =
      some (0xCFFE, 0x12, 0xB0, 0xC001, 16) := by decide

/-- L16.13 (R157): `POP AF` masks F. -/
theorem test_L16_13 :
    after 0xC000 [0xF1] (poke (poke { start with sp := 0xD000 } 0xD000 0xFF) 0xD001 0x12)
      (fun t => (t.a, t.f, t.sp, t.pc, t.cycles)) =
      some (0x12, 0xF0, 0xD002, 0xC001, 12) := by decide

/-- A8.1 (R168): `ADD A,B`. -/
theorem test_A8_1 :
    after 0xC000 [0x80] { start with a := 0x3A, b := 0xC6 } (fun t => (t.a, t.f, t.pc, t.cycles)) =
      some (0x00, 0xB0, 0xC001, 4) := by decide

/-- A8.3 (R170): `ADD A,n`. -/
theorem test_A8_3 :
    after 0xC000 [0xC6, 0x01] { start with a := 0x0F } (fun t => (t.a, t.f, t.pc, t.cycles)) =
      some (0x10, 0x20, 0xC002, 8) := by decide

/-- A8.4 (R169): `ADD A,(HL)`. -/
theorem test_A8_4 :
    after 0xC000 [0x86] (poke { start with a := 0x3C, h := 0xC1, l := 0x00 } 0xC100 0x12)
      (fun t => (t.a, t.f, t.pc, t.cycles)) =
      some (0x4E, 0x00, 0xC001, 8) := by decide

/-- A8.5 (R171): `ADC A,C`. -/
theorem test_A8_5 :
    after 0xC000 [0x89] { start with a := 0xFF, c := 0xFF, f := 0x10 } (fun t => (t.a, t.f, t.pc, t.cycles)) =
      some (0xFF, 0x30, 0xC001, 4) := by decide

/-- A8.6 (R173, R165): `ADC A,n`, carry-in makes the carry. -/
theorem test_A8_6 :
    after 0xC000 [0xCE, 0x00] { start with a := 0xFF, f := 0x10 } (fun t => (t.a, t.f, t.pc, t.cycles)) =
      some (0x00, 0xB0, 0xC002, 8) := by decide

/-- A8.8 (R174): `SUB B`. -/
theorem test_A8_8 :
    after 0xC000 [0x90] { start with a := 0x3E, b := 0x3E } (fun t => (t.a, t.f, t.pc, t.cycles)) =
      some (0x00, 0xC0, 0xC001, 4) := by decide

/-- A8.9 (R176): `SUB n`. -/
theorem test_A8_9 :
    after 0xC000 [0xD6, 0x0F] { start with a := 0x3E } (fun t => (t.a, t.f, t.pc, t.cycles)) =
      some (0x2F, 0x60, 0xC002, 8) := by decide

/-- A8.10 (R175): `SUB (HL)`. -/
theorem test_A8_10 :
    after 0xC000 [0x96] (poke { start with a := 0x3E, h := 0xC1, l := 0x00 } 0xC100 0x40)
      (fun t => (t.a, t.f, t.pc, t.cycles)) =
      some (0xFE, 0x50, 0xC001, 8) := by decide

/-- A8.11 (R177): `SBC A,H`. -/
theorem test_A8_11 :
    after 0xC000 [0x9C] { start with a := 0x3B, h := 0x2A, f := 0x10 } (fun t => (t.a, t.f, t.pc, t.cycles)) =
      some (0x10, 0x40, 0xC001, 4) := by decide

/-- A8.12 (R179, R166): `SBC A,n`, full borrow. -/
theorem test_A8_12 :
    after 0xC000 [0xDE, 0xFF] { start with a := 0x00, f := 0x10 } (fun t => (t.a, t.f, t.pc, t.cycles)) =
      some (0x00, 0xF0, 0xC002, 8) := by decide

/-- A8.14 (R180): `AND L`. -/
theorem test_A8_14 :
    after 0xC000 [0xA5] { start with a := 0x5A, l := 0x3F, f := 0xF0 } (fun t => (t.a, t.f, t.pc, t.cycles)) =
      some (0x1A, 0x20, 0xC001, 4) := by decide

/-- A8.15 (R182): `AND n` to zero. -/
theorem test_A8_15 :
    after 0xC000 [0xE6, 0x0F] { start with a := 0xF0 } (fun t => (t.a, t.f, t.pc, t.cycles)) =
      some (0x00, 0xA0, 0xC002, 8) := by decide

/-- A8.16 (R183): `XOR A`. -/
theorem test_A8_16 :
    after 0xC000 [0xAF] { start with a := 0x99, f := 0xF0 } (fun t => (t.a, t.f, t.pc, t.cycles)) =
      some (0x00, 0x80, 0xC001, 4) := by decide

/-- A8.17 (R185): `XOR n`. -/
theorem test_A8_17 :
    after 0xC000 [0xEE, 0x0F] { start with a := 0xFF } (fun t => (t.a, t.f, t.pc, t.cycles)) =
      some (0xF0, 0x00, 0xC002, 8) := by decide

/-- A8.18 (R187): `OR (HL)`. -/
theorem test_A8_18 :
    after 0xC000 [0xB6] (poke { start with a := 0x5A, h := 0xC1, l := 0x00 } 0xC100 0x0F)
      (fun t => (t.a, t.f, t.pc, t.cycles)) =
      some (0x5F, 0x00, 0xC001, 8) := by decide

/-- A8.20 (R189): `CP B` equal. -/
theorem test_A8_20 :
    after 0xC000 [0xB8] { start with a := 0x3C, b := 0x3C } (fun t => (t.a, t.f, t.pc, t.cycles)) =
      some (0x3C, 0xC0, 0xC001, 4) := by decide

/-- A8.21 (R191): `CP n` greater. -/
theorem test_A8_21 :
    after 0xC000 [0xFE, 0x40] { start with a := 0x3C } (fun t => (t.a, t.f, t.pc, t.cycles)) =
      some (0x3C, 0x50, 0xC002, 8) := by decide

/-- A8.22 (R190): `CP (HL)` half borrow. -/
theorem test_A8_22 :
    after 0xC000 [0xBE] (poke { start with a := 0x3C, h := 0xC1, l := 0x00 } 0xC100 0x2F)
      (fun t => (t.a, t.f, t.pc, t.cycles)) =
      some (0x3C, 0x60, 0xC001, 8) := by decide

/-- A8.23 (R192): `INC A` wraps, C kept. -/
theorem test_A8_23 :
    after 0xC000 [0x3C] { start with a := 0xFF, f := 0x10 } (fun t => (t.a, t.f, t.pc, t.cycles)) =
      some (0x00, 0xB0, 0xC001, 4) := by decide

/-- A8.24 (R192): `INC B`. -/
theorem test_A8_24 :
    after 0xC000 [0x04] { start with b := 0x0F } (fun t => (t.b, t.f, t.pc, t.cycles)) =
      some (0x10, 0x20, 0xC001, 4) := by decide

/-- A8.25 (R193): `INC (HL)`. -/
theorem test_A8_25 :
    after 0xC000 [0x34] (poke { start with h := 0xC1, l := 0x00, f := 0xF0 } 0xC100 0x50)
      (fun t => (t.busRead 0xC100, t.f, t.pc, t.cycles)) =
      some (0x51, 0x10, 0xC001, 12) := by decide

/-- A8.26 (R194): `DEC L`. -/
theorem test_A8_26 :
    after 0xC000 [0x2D] { start with l := 0x01 } (fun t => (t.l, t.f, t.pc, t.cycles)) =
      some (0x00, 0xC0, 0xC001, 4) := by decide

/-- A8.27 (R194): `DEC A` wraps, C kept. -/
theorem test_A8_27 :
    after 0xC000 [0x3D] { start with a := 0x00, f := 0x10 } (fun t => (t.a, t.f, t.pc, t.cycles)) =
      some (0xFF, 0x70, 0xC001, 4) := by decide

/-- A8.28 (R195): `DEC (HL)`. -/
theorem test_A8_28 :
    after 0xC000 [0x35] (poke { start with h := 0xC1, l := 0x00 } 0xC100 0x10)
      (fun t => (t.busRead 0xC100, t.f, t.pc, t.cycles)) =
      some (0x0F, 0x60, 0xC001, 12) := by decide

/-- A8.29 (R196): `DAA` after 45+38. -/
theorem test_A8_29 :
    after 0xC000 [0x27] { start with a := 0x7D, f := 0x00 } (fun t => (t.a, t.f, t.pc, t.cycles)) =
      some (0x83, 0x00, 0xC001, 4) := by decide

/-- A8.31 (R196): `DAA` after a subtraction, H set. -/
theorem test_A8_31 :
    after 0xC000 [0x27] { start with a := 0x4B, f := 0x60 } (fun t => (t.a, t.f, t.pc, t.cycles)) =
      some (0x45, 0x40, 0xC001, 4) := by decide

/-- A8.35 (R197): `CPL`. -/
theorem test_A8_35 :
    after 0xC000 [0x2F] { start with a := 0x35, f := 0x90 } (fun t => (t.a, t.f, t.pc, t.cycles)) =
      some (0xCA, 0xF0, 0xC001, 4) := by decide

/-- A8.36 (R198): `SCF`. -/
theorem test_A8_36 :
    after 0xC000 [0x37] { start with f := 0xE0 } (fun t => (t.f, t.pc, t.cycles)) =
      some (0x90, 0xC001, 4) := by decide

/-- A8.37 (R199): `CCF` from 1. -/
theorem test_A8_37 :
    after 0xC000 [0x3F] { start with f := 0xF0 } (fun t => (t.f, t.pc, t.cycles)) =
      some (0x80, 0xC001, 4) := by decide

/-- A16.1 (R210): `ADD HL,BC`. -/
theorem test_A16_1 :
    after 0xC000 [0x09] { start with h := 0x8A, l := 0x23, b := 0x06, c := 0x05, f := 0x80 }
      (fun t => (t.hl, t.f, t.pc, t.cycles)) =
      some (0x9028, 0xA0, 0xC001, 8) := by decide

/-- A16.2 (R210): `ADD HL,HL`. -/
theorem test_A16_2 :
    after 0xC000 [0x29] { start with h := 0x88, l := 0x00, f := 0x00 } (fun t => (t.hl, t.f, t.pc, t.cycles)) =
      some (0x1000, 0x30, 0xC001, 8) := by decide

/-- A16.3 (R210): `ADD HL,SP` to zero. -/
theorem test_A16_3 :
    after 0xC000 [0x39] { start with h := 0xFF, l := 0xFF, sp := 0x0001, f := 0xC0 }
      (fun t => (t.hl, t.f, t.pc, t.cycles)) =
      some (0x0000, 0xB0, 0xC001, 8) := by decide

/-- A16.4 (R210): `ADD HL,DE` carry out of bit 11. -/
theorem test_A16_4 :
    after 0xC000 [0x19] { start with h := 0x0F, l := 0xFF, d := 0x00, e := 0x01, f := 0x00 }
      (fun t => (t.hl, t.f, t.pc, t.cycles)) =
      some (0x1000, 0x20, 0xC001, 8) := by decide

/-- A16.5 (R211): `INC SP` wraps. -/
theorem test_A16_5 :
    after 0xC000 [0x33] { start with sp := 0xFFFF, f := 0xF0 } (fun t => (t.sp, t.f, t.pc, t.cycles)) =
      some (0x0000, 0xF0, 0xC001, 8) := by decide

/-- A16.7 (R212): `DEC DE` wraps. -/
theorem test_A16_7 :
    after 0xC000 [0x1B] { start with d := 0x00, e := 0x00, f := 0x00 } (fun t => (t.de, t.f, t.pc, t.cycles)) =
      some (0xFFFF, 0x00, 0xC001, 8) := by decide

/-- A16.9 (R213): `ADD SP,e`. -/
theorem test_A16_9 :
    after 0xC000 [0xE8, 0x02] { start with sp := 0xFFF8, f := 0xF0 } (fun t => (t.sp, t.f, t.pc, t.cycles)) =
      some (0xFFFA, 0x00, 0xC002, 16) := by decide

/-- A16.12 (R213): `ADD SP,e` wraps. -/
theorem test_A16_12 :
    after 0xC000 [0xE8, 0x01] { start with sp := 0xFFFF } (fun t => (t.sp, t.f, t.pc, t.cycles)) =
      some (0x0000, 0x30, 0xC002, 16) := by decide

/-- T.1 (R220): `RLCA`. -/
theorem test_T_1 :
    after 0xC000 [0x07] { start with a := 0x85, f := 0xE0 } (fun t => (t.a, t.f, t.pc, t.cycles)) =
      some (0x0B, 0x10, 0xC001, 4) := by decide

/-- T.3 (R221): `RRCA`. -/
theorem test_T_3 :
    after 0xC000 [0x0F] { start with a := 0x3B } (fun t => (t.a, t.f, t.pc, t.cycles)) =
      some (0x9D, 0x10, 0xC001, 4) := by decide

/-- T.4 (R222): `RLA`. -/
theorem test_T_4 :
    after 0xC000 [0x17] { start with a := 0x95, f := 0x10 } (fun t => (t.a, t.f, t.pc, t.cycles)) =
      some (0x2B, 0x10, 0xC001, 4) := by decide

/-- T.6 (R223): `RRA`. -/
theorem test_T_6 :
    after 0xC000 [0x1F] { start with a := 0x81, f := 0x00 } (fun t => (t.a, t.f, t.pc, t.cycles)) =
      some (0x40, 0x10, 0xC001, 4) := by decide

/-- T.7 (R225): `RLC B`. -/
theorem test_T_7 :
    after 0xC000 [0xCB, 0x00] { start with b := 0x85 } (fun t => (t.b, t.f, t.pc, t.cycles)) =
      some (0x0B, 0x10, 0xC002, 8) := by decide

/-- T.8 (R226): `RLC (HL)` of zero. -/
theorem test_T_8 :
    after 0xC000 [0xCB, 0x06] (poke { start with h := 0xC1, l := 0x00, f := 0x70 } 0xC100 0x00)
      (fun t => (t.busRead 0xC100, t.f, t.pc, t.cycles)) =
      some (0x00, 0x80, 0xC002, 16) := by decide

/-- T.9 (R227): `RRC C`. -/
theorem test_T_9 :
    after 0xC000 [0xCB, 0x09] { start with c := 0x01 } (fun t => (t.c, t.f, t.pc, t.cycles)) =
      some (0x80, 0x10, 0xC002, 8) := by decide

/-- T.10 (R229): `RL L` to zero. -/
theorem test_T_10 :
    after 0xC000 [0xCB, 0x15] { start with l := 0x80, f := 0x00 } (fun t => (t.l, t.f, t.pc, t.cycles)) =
      some (0x00, 0x90, 0xC002, 8) := by decide

/-- T.11 (R230): `RL (HL)`. -/
theorem test_T_11 :
    after 0xC000 [0xCB, 0x16] (poke { start with h := 0xC1, l := 0x00, f := 0x10 } 0xC100 0x11)
      (fun t => (t.busRead 0xC100, t.f, t.pc, t.cycles)) =
      some (0x23, 0x00, 0xC002, 16) := by decide

/-- T.12 (R231): `RR A` to zero. -/
theorem test_T_12 :
    after 0xC000 [0xCB, 0x1F] { start with a := 0x01, f := 0x00 } (fun t => (t.a, t.f, t.pc, t.cycles)) =
      some (0x00, 0x90, 0xC002, 8) := by decide

/-- T.13 (R232): `RR (HL)`. -/
theorem test_T_13 :
    after 0xC000 [0xCB, 0x1E] (poke { start with h := 0xC1, l := 0x00, f := 0x00 } 0xC100 0x8A)
      (fun t => (t.busRead 0xC100, t.f, t.pc, t.cycles)) =
      some (0x45, 0x00, 0xC002, 16) := by decide

/-- T.14 (R233): `SLA D`. -/
theorem test_T_14 :
    after 0xC000 [0xCB, 0x22] { start with d := 0x80 } (fun t => (t.d, t.f, t.pc, t.cycles)) =
      some (0x00, 0x90, 0xC002, 8) := by decide

/-- T.15 (R234): `SLA (HL)`. -/
theorem test_T_15 :
    after 0xC000 [0xCB, 0x26] (poke { start with h := 0xC1, l := 0x00 } 0xC100 0xFF)
      (fun t => (t.busRead 0xC100, t.f, t.pc, t.cycles)) =
      some (0xFE, 0x10, 0xC002, 16) := by decide

/-- T.16 (R235): `SRA A` keeps bit 7. -/
theorem test_T_16 :
    after 0xC000 [0xCB, 0x2F] { start with a := 0x8A } (fun t => (t.a, t.f, t.pc, t.cycles)) =
      some (0xC5, 0x00, 0xC002, 8) := by decide

/-- T.17 (R236): `SRA (HL)`. -/
theorem test_T_17 :
    after 0xC000 [0xCB, 0x2E] (poke { start with h := 0xC1, l := 0x00 } 0xC100 0x01)
      (fun t => (t.busRead 0xC100, t.f, t.pc, t.cycles)) =
      some (0x00, 0x90, 0xC002, 16) := by decide

/-- T.18 (R237): `SWAP A`. -/
theorem test_T_18 :
    after 0xC000 [0xCB, 0x37] { start with a := 0xF1, f := 0xF0 } (fun t => (t.a, t.f, t.pc, t.cycles)) =
      some (0x1F, 0x00, 0xC002, 8) := by decide

/-- T.19 (R238): `SWAP (HL)` of zero. -/
theorem test_T_19 :
    after 0xC000 [0xCB, 0x36] (poke { start with h := 0xC1, l := 0x00 } 0xC100 0x00)
      (fun t => (t.busRead 0xC100, t.f, t.pc, t.cycles)) =
      some (0x00, 0x80, 0xC002, 16) := by decide

/-- T.20 (R239): `SRL A`. -/
theorem test_T_20 :
    after 0xC000 [0xCB, 0x3F] { start with a := 0x01 } (fun t => (t.a, t.f, t.pc, t.cycles)) =
      some (0x00, 0x90, 0xC002, 8) := by decide

/-- T.21 (R240): `SRL (HL)`. -/
theorem test_T_21 :
    after 0xC000 [0xCB, 0x3E] (poke { start with h := 0xC1, l := 0x00 } 0xC100 0xFF)
      (fun t => (t.busRead 0xC100, t.f, t.pc, t.cycles)) =
      some (0x7F, 0x10, 0xC002, 16) := by decide

/-- T.22 (R241): `BIT 7,A` set, C kept. -/
theorem test_T_22 :
    after 0xC000 [0xCB, 0x7F] { start with a := 0x80, f := 0x10 } (fun t => (t.f, t.pc, t.cycles)) =
      some (0x30, 0xC002, 8) := by decide

/-- T.23 (R241): `BIT 4,L` clear. -/
theorem test_T_23 :
    after 0xC000 [0xCB, 0x65] { start with l := 0xEF, f := 0x00 } (fun t => (t.f, t.pc, t.cycles)) =
      some (0xA0, 0xC002, 8) := by decide

/-- T.24 (R242): `BIT 0,(HL)` clear, C kept. -/
theorem test_T_24 :
    after 0xC000 [0xCB, 0x46] (poke { start with h := 0xC1, l := 0x00, f := 0xD0 } 0xC100 0xFE)
      (fun t => (t.f, t.pc, t.cycles)) =
      some (0xB0, 0xC002, 12) := by decide

/-- T.25 (R243): `RES 7,A`. -/
theorem test_T_25 :
    after 0xC000 [0xCB, 0xBF] { start with a := 0xFF, f := 0xF0 } (fun t => (t.a, t.f, t.pc, t.cycles)) =
      some (0x7F, 0xF0, 0xC002, 8) := by decide

/-- T.26 (R244): `RES 1,(HL)`. -/
theorem test_T_26 :
    after 0xC000 [0xCB, 0x8E] (poke { start with h := 0xC1, l := 0x00 } 0xC100 0xFF)
      (fun t => (t.busRead 0xC100, t.pc, t.cycles)) =
      some (0xFD, 0xC002, 16) := by decide

/-- T.27 (R245): `SET 3,A`. -/
theorem test_T_27 :
    after 0xC000 [0xCB, 0xDF] { start with a := 0x80 } (fun t => (t.a, t.pc, t.cycles)) =
      some (0x88, 0xC002, 8) := by decide

/-- T.28 (R246): `SET 7,(HL)`. -/
theorem test_T_28 :
    after 0xC000 [0xCB, 0xFE] (poke { start with h := 0xC1, l := 0x00 } 0xC100 0x00)
      (fun t => (t.busRead 0xC100, t.pc, t.cycles)) =
      some (0x80, 0xC002, 16) := by decide

/-- B.1 (R251): `JP nn`. -/
theorem test_B_1 :
    after 0xC000 [0xC3, 0x50, 0x01] start (fun t => (t.pc, t.cycles)) =
      some (0x0150, 16) := by decide

/-- B.2 (R252): `JP Z,nn` taken. -/
theorem test_B_2 :
    after 0xC000 [0xCA, 0x00, 0x80] { start with f := 0x80 } (fun t => (t.pc, t.cycles)) =
      some (0x8000, 16) := by decide

/-- B.4 (R252): `JP NC,nn` not taken. -/
theorem test_B_4 :
    after 0xC000 [0xD2, 0x00, 0x80] { start with f := 0x10 } (fun t => (t.pc, t.cycles)) =
      some (0xC003, 12) := by decide

/-- B.5 (R253): `JP HL`. -/
theorem test_B_5 :
    after 0xC000 [0xE9] { start with h := 0x80, l := 0x00 } (fun t => (t.pc, t.cycles)) =
      some (0x8000, 4) := by decide

/-- B.9 (R254): `JR e`, e = −128. -/
theorem test_B_9 :
    after 0xC000 [0x18, 0x80] start (fun t => (t.pc, t.cycles)) =
      some (0xBF82, 12) := by decide

/-- B.10 (R255): `JR C,e` taken. -/
theorem test_B_10 :
    after 0xC000 [0x38, 0x10] { start with f := 0x10 } (fun t => (t.pc, t.cycles)) =
      some (0xC012, 12) := by decide

/-- B.11 (R255): `JR NZ,e` not taken. -/
theorem test_B_11 :
    after 0xC000 [0x20, 0xFC] { start with f := 0x80 } (fun t => (t.pc, t.cycles)) =
      some (0xC002, 8) := by decide

/-- B.13 (R256): `CALL nn`. -/
theorem test_B_13 :
    after 0xC000 [0xCD, 0x34, 0x12] { start with sp := 0xFFFE }
      (fun t => (t.pc, t.sp, t.busRead 0xFFFD, t.busRead 0xFFFC, t.cycles)) =
      some (0x1234, 0xFFFC, 0xC0, 0x03, 24) := by decide

/-- B.14 (R257): `CALL NC,nn` taken. -/
theorem test_B_14 :
    after 0xC100 [0xD4, 0x00, 0xC2] { start with sp := 0xD000, f := 0x00 }
      (fun t => (t.pc, t.sp, t.busRead 0xCFFF, t.busRead 0xCFFE, t.cycles)) =
      some (0xC200, 0xCFFE, 0xC1, 0x03, 24) := by decide

/-- B.15 (R257): `CALL Z,nn` not taken. -/
theorem test_B_15 :
    after 0xC000 [0xCC, 0x00, 0xC2] { start with sp := 0xD000, f := 0x00 } (fun t => (t.pc, t.sp, t.cycles)) =
      some (0xC003, 0xD000, 12) := by decide

/-- B.16 (R258): `RET`. -/
theorem test_B_16 :
    after 0xC000 [0xC9] (poke (poke { start with sp := 0xFFFC } 0xFFFC 0x03) 0xFFFD 0x80)
      (fun t => (t.pc, t.sp, t.cycles)) =
      some (0x8003, 0xFFFE, 16) := by decide

/-- B.17 (R259): `RET Z` taken. -/
theorem test_B_17 :
    after 0xC000 [0xC8] (poke (poke { start with f := 0x80, sp := 0xFFFC } 0xFFFC 0x03) 0xFFFD 0x80)
      (fun t => (t.pc, t.sp, t.cycles)) =
      some (0x8003, 0xFFFE, 20) := by decide

/-- B.18 (R259): `RET NC` not taken. -/
theorem test_B_18 :
    after 0xC000 [0xD0] (poke (poke { start with f := 0x10, sp := 0xFFFC } 0xFFFC 0x03) 0xFFFD 0x80)
      (fun t => (t.pc, t.sp, t.cycles)) =
      some (0xC001, 0xFFFC, 8) := by decide

/-- B.19 (R260): `RETI`. -/
theorem test_B_19 :
    after 0xC000 [0xD9] (poke (poke { start with ime := false, sp := 0xFFFC } 0xFFFC 0x03) 0xFFFD 0x80)
      (fun t => (t.pc, t.sp, t.ime, t.cycles)) =
      some (0x8003, 0xFFFE, true, 16) := by decide

/-- B.20 (R261): `RST 28`. -/
theorem test_B_20 :
    after 0xC123 [0xEF] { start with sp := 0xFFFE }
      (fun t => (t.pc, t.sp, t.busRead 0xFFFD, t.busRead 0xFFFC, t.cycles)) =
      some (0x0028, 0xFFFC, 0xC1, 0x24, 16) := by decide

/-- B.21 (R261): `RST 00`. -/
theorem test_B_21 :
    after 0xC000 [0xC7] { start with sp := 0xD000 }
      (fun t => (t.pc, t.sp, t.busRead 0xCFFF, t.busRead 0xCFFE, t.cycles)) =
      some (0x0000, 0xCFFE, 0xC0, 0x01, 16) := by decide

end Sys2Proof.Tests
end

