-- ==== Sys2Proof/Tests/Witness.lean ====
section
/-! SUPPORT. Witnesses: for every statement of Obligations.lean that has hypotheses, a state and operands that meet them all
together, clause by clause, at the ends of the ranges the clauses name. -/

namespace Sys2Proof.Tests

open Machine

/-! ### Encoding -/

theorem witness_DecodeInvertsEncode : (Instr.ldIndNnSp 0xFFFF).wellFormed = true ∧ Instr.set7A.wellFormed = true := by
  decide

theorem witness_EncodeInvertsDecode :
    decode [0xC3, 0x50, 0x01, 0xAA] = .ok (.jpNn 0x0150, [0xAA]) ∧ decode [0xCB, 0xFF] = .ok (.set7A, []) := ⟨rfl, rfl⟩

theorem witness_LengthFollowsFromFirstByte :
    (Instr.jpNn 0x0000).wellFormed = true ∧ (Instr.jpNn 0xFFFF).wellFormed = true ∧
      (encode (.jpNn 0x0000)).head? = (encode (.jpNn 0xFFFF)).head? ∧
      Instr.rlcB.wellFormed = true ∧ (encode .rlcB).head? = some 0xCB := by decide

theorem witness_ElevenOpcodesAreIllegal :
    decode [0xD3, 0x00, 0x00] = .ok (.illegalD3, [0x00, 0x00]) ∧ decode [0xFD, 0xFF, 0xFF] = .ok (.illegalFD, [0xFF, 0xFF]) ∧
      decode [0xD4, 0x34, 0x12] = .ok (.callNcNn 0x1234, []) := ⟨rfl, rfl, rfl⟩

/-! ### The step -/

/-- A one-byte, a two-byte and, at the top of the address space, an instruction that wraps to address 0000. -/
theorem witness_StepRunsDecodedInstruction :
    (let s := (code 0xC000 [0x3E, 0x42] start).takeInput.2
     s.mode = .running ∧ ¬ (s.ime = true ∧ s.pending ≠ 0) ∧ s.haltBug = false ∧
      decode [s.busRead s.pc, s.busRead (s.pc + 1), s.busRead (s.pc + 2)] = .ok (.ldAN 0x42, [0x00])) ∧
    (let s := ({ start with pc := 0xFFFF, bus.ie := 0x3E } : State).takeInput.2
     s.mode = .running ∧ ¬ (s.ime = true ∧ s.pending ≠ 0) ∧ s.haltBug = false ∧
      decode [s.busRead s.pc, s.busRead (s.pc + 1), s.busRead (s.pc + 2)] = .ok (.ldAN 0x00, [0x00])) := by
  have h1 : ∀ s : State, [s.busRead s.pc, s.busRead (s.pc + 1), s.busRead (s.pc + 2)] = ([0x3E, 0x42, 0x00] : List Byte) →
      decode [s.busRead s.pc, s.busRead (s.pc + 1), s.busRead (s.pc + 2)] = .ok (.ldAN 0x42, [0x00]) := fun s h => by
    rw [h]; rfl
  have h2 : ∀ s : State, [s.busRead s.pc, s.busRead (s.pc + 1), s.busRead (s.pc + 2)] = ([0x3E, 0x00, 0x00] : List Byte) →
      decode [s.busRead s.pc, s.busRead (s.pc + 1), s.busRead (s.pc + 2)] = .ok (.ldAN 0x00, [0x00]) := fun s h => by
    rw [h]; rfl
  exact ⟨⟨rfl, by decide, rfl, h1 _ (by decide)⟩, ⟨rfl, by decide, rfl, h2 _ (by decide)⟩⟩

theorem witness_HaltBugReadsTheByteTwice :
    let s := ({ code 0xC001 [0x06, 0x04] start with haltBug := true } : State).takeInput.2
    s.mode = .running ∧ ¬ (s.ime = true ∧ s.pending ≠ 0) ∧ s.haltBug = true ∧
      decode [s.busRead s.pc, s.busRead s.pc, s.busRead (s.pc + 1)] = .ok (.ldBN 0x06, [0x04]) := by
  have h : ∀ s : State, [s.busRead s.pc, s.busRead s.pc, s.busRead (s.pc + 1)] = ([0x06, 0x06, 0x04] : List Byte) →
      decode [s.busRead s.pc, s.busRead s.pc, s.busRead (s.pc + 1)] = .ok (.ldBN 0x06, [0x04]) := fun s h => by
    rw [h]; rfl
  exact ⟨rfl, by decide, rfl, h _ (by decide)⟩

/-- One state and one next state for each of the five clauses. -/
theorem witness_DelayedEnable :
    (∃ t : State, finishStep true (exec .nop { start with imePending := true }) = .next t) ∧
    (∃ t : State, finishStep false (exec .nop start) = .next t) ∧
    (∃ t : State, finishStep false (exec .ei start) = .next t) ∧
    (∃ t : State, finishStep true (exec .di { start with imePending := true }) = .next t) ∧
    (∃ t : State, finishStep true (exec .reti { start with imePending := true }) = .next t) ∧
    Instr.nop.wellFormed = true ∧ Instr.nop ≠ .di ∧ Instr.nop ≠ .reti ∧ Instr.nop ≠ .ei :=
  ⟨⟨_, rfl⟩, ⟨_, rfl⟩, ⟨_, rfl⟩, ⟨_, rfl⟩, ⟨_, rfl⟩, rfl, by decide, by decide, by decide⟩

/-- The first and the last source of the table. -/
theorem witness_InterruptDispatch :
    (let s := ({ requests start 0xFF 0x01 with ime := true } : State).takeInput.2
     s.mode = .running ∧ s.ime = true ∧
      (s.busRead 0xFFFF &&& s.busRead 0xFF0F &&& 0x1F).getLsbD Source.vblank.index = true ∧
      ∀ j : Source, j.index < Source.vblank.index →
        (s.busRead 0xFFFF &&& s.busRead 0xFF0F &&& 0x1F).getLsbD j.index = false) ∧
    (let s := ({ requests start 0x10 0xFF with ime := true } : State).takeInput.2
     s.mode = .running ∧ s.ime = true ∧
      (s.busRead 0xFFFF &&& s.busRead 0xFF0F &&& 0x1F).getLsbD Source.joypad.index = true ∧
      ∀ j : Source, j.index < Source.joypad.index →
        (s.busRead 0xFFFF &&& s.busRead 0xFF0F &&& 0x1F).getLsbD j.index = false) := by
  refine ⟨⟨rfl, rfl, rfl, ?_⟩, ⟨rfl, rfl, rfl, ?_⟩⟩ <;> intro j h <;> cases j <;> first | rfl | exact absurd h (by decide)

theorem witness_DispatchSavesOnlyPc :
    let s0 : State := { requests start 0x1F 0x1F with ime := true, sp := 0xD000 }
    let s := s0.takeInput.2
    s.Inv ∧ s.mode = .running ∧ s.ime = true ∧ s.pending ≠ 0 ∧ (∃ t : State, step s0 = .next t) ∧
      s.bus.plainByte (s.sp - 1) ∧ s.bus.plainByte (s.sp - 2) ∧ s.sp - 1 ≠ 0xFF0F ∧ s.sp - 2 ≠ 0xFF0F ∧
      ¬ sameByte 0xCFFD (s.sp - 1) ∧ ¬ sameByte 0xCFFD (s.sp - 2) := by
  refine ⟨by decide, rfl, rfl, by decide, ⟨_, rfl⟩, by decide, by decide, by decide, by decide, by decide, by decide⟩

theorem witness_LockedUntilReset :
    ({ start with mode := .locked } : State).takeInput.2.mode = .locked ∧
    (let s0 : State := { start with mode := .locked, inputs := [{ moves := [.writeIe 0xFF, .raise .joypad], wake := true }] }
     s0.mode = .locked ∧
      (∀ (x : StepInput) (rest : List StepInput) (init : ResetInit), s0.inputs = x :: rest → .reset init ∉ x.moves) ∧
      ∃ t : State, step s0 = .next t) := by
  refine ⟨rfl, rfl, ?_, ⟨_, rfl⟩⟩
  intro x rest init h
  cases h
  simp

theorem witness_WaitsUntilWoken :
    (let s0 : State := { start with mode := .stopped }
     s0.takeInput.2.mode = .stopped ∧ s0.takeInput.1 = false) ∧
    (let s0 : State := { start with mode := .stopped, inputs := [{ wake := true }] }
     s0.takeInput.2.mode = .stopped ∧ s0.takeInput.1 = true) ∧
    (let s0 : State := { requests start 0xE0 0xFF with mode := .halted }
     s0.takeInput.2.mode = .halted ∧ s0.takeInput.2.pending = 0) ∧
    (let s0 : State := { requests start 0x10 0x10 with mode := .halted }
     s0.takeInput.2.mode = .halted ∧ s0.takeInput.2.pending ≠ 0) ∧
    start.mode ≠ .stopped := by decide

theorem witness_StepKeepsInvariant : State.reset.Inv ∧ ∃ t : State, step State.reset = .next t :=
  ⟨by decide, ⟨_, rfl⟩⟩

theorem witness_StepKeepsCartridge : ∃ t : State, step State.reset = .next t := ⟨_, rfl⟩

/-- The three ways a run ends: locked, halted for good, and `JR` to itself. -/
theorem witness_EndOfRunIsFixed :
    (∃ t : State, (code 0xC000 [0xDD] start).engineStep false = .next t ∧
      endOfRun false (code 0xC000 [0xDD] start) t = true) ∧
    (∃ t : State, (code 0xC000 [0x76] start).engineStep false = .next t ∧
      endOfRun false (code 0xC000 [0x76] start) t = true) ∧
    (∃ t : State, (code 0xC000 [0x18, 0xFE] start).engineStep false = .next t ∧
      endOfRun false (code 0xC000 [0x18, 0xFE] start) t = true) :=
  ⟨⟨_, rfl, rfl⟩, ⟨_, rfl, rfl⟩, ⟨_, rfl, rfl⟩⟩

/-! ### Reset and the outside -/

theorem witness_ResetEstablishesBaseline : State.reset = State.powerOn Cartridge.blank {} {} := by decide

/-- Contents at the first and the last offset of every store. -/
theorem witness_ResetLeavesAnyMemory :
    let s := withCart .mbc1 0 1 []
    Memory.ok 0x2000 [(0x0000, 0xFF), (0x1FFF, 0x01)] = true ∧ Memory.ok 0xA0 [(0x00, 0xFF), (0x9F, 0x01)] = true ∧
      Memory.ok 0x80 [(0x00, 0xFF), (0x7F, 0x01)] = true ∧ Memory.ok 0x7F [(0x00, 0xFF), (0x7E, 0x01)] = true ∧
      Memory.ok (s.bus.cart.ramBanks.val * 0x2000) [(0x0000, 0xFF), (0x1FFF, 0x01)] = true := by decide

theorem witness_OutsideActsThroughTheWindow :
    start.Inv ∧ (∀ init : ResetInit, EnvMove.raise .joypad ≠ .reset init) ∧
      ((0xFEFF : Word).toNat < 0xFF00 ∧ (0xFEFF : Word) ≠ 0xFFFF) ∧ (0xFF7F < (0xFF80 : Word).toNat ∧ (0xFF80 : Word) ≠ 0xFFFF) :=
  ⟨by decide, by simp, by decide, by decide⟩

/-- The largest and the smallest cartridge. -/
theorem witness_ConstructAcceptsValidCartridges :
    (∃ t : State, construct .mbc5 8 0x800000 16 [] {} {} = .next t) ∧
      (∃ t : State, construct .romOnly 0 0x8000 0 [] {} {} = .next t) ∧
      construct .mbc5 9 0x1000000 0 [] {} {} = .refused (.invalidSizeCode 9) ∧
      construct .mbc5 8 0x7FFFFF 0 [] {} {} = .refused (.sizeMismatch 0x7FFFFF) ∧
      construct .mbc5 8 0x800000 17 [] {} {} = .refused (.ramBanksOutOfRange 17) :=
  ⟨⟨_, rfl⟩, ⟨_, rfl⟩, rfl, rfl, rfl⟩

/-! ### The bus and the bank controller -/

/-- A machine whose external RAM answers. -/
def ramOn (kind : MbcKind) (sizeCode : Fin 9) (ramBanks : Fin 17) : State :=
  { withCart kind sizeCode ramBanks [] with bus.mbc.ramEnable := true }

theorem witness_ReadAfterWrite :
    start.Inv ∧ start.bus.plainByte 0x8000 ∧ start.bus.plainByte 0xFE9F ∧ start.bus.plainByte 0xFFFF ∧
      (ramOn .mbc3 3 4).Inv ∧ (ramOn .mbc3 3 4).bus.plainByte 0xA000 ∧ (ramOn .mbc3 3 4).bus.plainByte 0xBFFF := by decide

/-- Neighbours, and an echo address beside another byte of work RAM. -/
theorem witness_WriteLeavesOtherBytes :
    start.Inv ∧ ¬ isControl 0x8000 ∧ ¬ sameByte 0x8000 0x7FFF ∧ ¬ isControl 0xFDFF ∧ ¬ sameByte 0xFDFF 0xDE00 ∧
      sameByte 0xFDFF 0xDDFF := by decide

/-- The edges of the range for a plain write, for HL and for the stack; instructions of one store, of two stores and with a
condition whose stores all go there; and a dispatch. -/
theorem witness_RomWritesAreControlWrites :
    ((0x7FFF : Word).toNat ≤ 0x7FFF ∧ ({ start with h := 0x7F, l := 0xFF } : State).hl.toNat ≤ 0x7FFF ∧
      (({ start with sp := 0x8000 } : State).sp - 1).toNat ≤ 0x7FFF ∧ (({ start with sp := 0x8000 } : State).sp - 2).toNat ≤ 0x7FFF ∧
      (({ start with sp := 0x0002 } : State).sp - 1).toNat ≤ 0x7FFF ∧ (({ start with sp := 0x0002 } : State).sp - 2).toNat ≤ 0x7FFF) ∧
    (Instr.decIndHl.form.stores { start with h := 0x7F, l := 0xFF } = [0x7FFF] ∧
      (Instr.ldIndNnSp 0x7FFE).form.stores start = [0x7FFE, 0x7FFF] ∧
      (Instr.callNzNn 0x1234).form.stores { start with sp := 0x8000 } = [0x7FFF, 0x7FFE] ∧
      isControl 0x7FFF ∧ isControl 0x7FFE ∧
      (Instr.ldIndNnSp 0x7FFF).form.stores start = [0x7FFF, 0x8000] ∧ ¬ isControl 0x8000 ∧
      Instr.decIndHl.wellFormed = true ∧ (Instr.ldIndNnSp 0x7FFE).wellFormed = true) ∧
    (let s := ({ requests start 0x01 0x01 with ime := true, sp := 0x8000 } : State).takeInput.2
     s.mode = .running ∧ s.ime = true ∧ s.pending ≠ 0 ∧ (s.sp - 1).toNat ≤ 0x7FFF ∧ (s.sp - 2).toNat ≤ 0x7FFF) := by
  decide

theorem witness_EchoIsWorkRam :
    0xE000 ≤ (0xE000 : Word).toNat ∧ (0xE000 : Word).toNat ≤ 0xFDFF ∧ 0xE000 ≤ (0xFDFF : Word).toNat ∧
      (0xFDFF : Word).toNat ≤ 0xFDFF ∧ start.Inv := by decide

/-- The ends of the unusable range, and of external RAM that is absent, disabled, and on a ROM-only cartridge. -/
theorem witness_LostWrites :
    (start.busRead 0xFEA0 = 0xFF ∧ start.busRead 0xFEFF = 0xFF) ∧
      (start.bus.cart.kind = .romOnly ∧ start.busRead 0xA000 = 0xFF ∧ start.busRead 0xBFFF = 0xFF) ∧
      ((withCart .mbc1 0 4 []).bus.mbc.ramEnable = false ∧ (withCart .mbc1 0 4 []).busRead 0xA000 = 0xFF) ∧
      ((ramOn .mbc1 0 0).bus.cart.ramBanks = 0 ∧ (ramOn .mbc1 0 0).busRead 0xBFFF = 0xFF) ∧
      start.busRead 0xFE9F = 0x00 ∧ start.busRead 0xFF00 = 0x00 ∧ start.busRead 0xC000 = 0x00 ∧ start.busRead 0x9FFF = 0x00 ∧
      after 0xC000 [0xC9] { start with sp := 0xFEA0 } (fun t => (t.pc, t.sp)) = some (0xFFFF, 0xFEA2) := by decide

theorem witness_SelectedBanksInRange :
    (let s := ramOn .mbc5 8 16
     Mbc.ok s.bus.cart s.bus.mbc = true ∧ s.bus.ramOk = true) ∧
      0x4000 ≤ (0x4000 : Word).toNat ∧ (0x7FFF : Word).toNat ≤ 0x7FFF ∧ 0xA000 ≤ (0xA000 : Word).toNat ∧
      (0xBFFF : Word).toNat ≤ 0xBFFF := by decide

/-- MBC1 at the ends of its four ranges of control writes, and in both banking modes. -/
theorem witness_Mbc1Control :
    let u := (withCart .mbc1 6 4 []).bus
    u.cart.kind = .mbc1 ∧ u.mbc.romLow.toNat < 32 ∧
      (u.mbcControlWrite 0x0000 0xFA).ramEnable = true ∧ (u.mbcControlWrite 0x1FFF 0xAF).ramEnable = false ∧
      (u.mbcControlWrite 0x2000 0xE0).romLow = 0x01 ∧ (u.mbcControlWrite 0x3FFF 0xFF).romLow = 0x1F ∧
      (u.mbcControlWrite 0x4000 0xFE).aux = 2 ∧ (u.mbcControlWrite 0x5FFF 0xFD).aux = 1 ∧
      (u.mbcControlWrite 0x6000 0xFF).bankMode = 1 ∧ (u.mbcControlWrite 0x7FFF 0xFE).bankMode = 0 ∧
      Bus.selRomBank { u with mbc.aux := 3, mbc.bankMode := 0 } = 0x61 ∧
      Bus.selRamBank { u with mbc.aux := 3, mbc.bankMode := 1 } = 3 := by decide

/-- MBC3 at the ends of its ranges, and a ROM-only cartridge. -/
theorem witness_Mbc3AndRomOnlyControl :
    let u := (withCart .mbc3 6 4 []).bus
    u.cart.kind = .mbc3 ∧ start.bus.cart.kind = .romOnly ∧
      (u.mbcControlWrite 0x0000 0x0A).ramEnable = true ∧ (u.mbcControlWrite 0x1FFF 0xA0).ramEnable = false ∧
      (u.mbcControlWrite 0x2000 0x80).romLow = 0x01 ∧ (u.mbcControlWrite 0x3FFF 0xFF).romLow = 0x7F ∧
      (u.mbcControlWrite 0x4000 0x0B).aux = 3 ∧ (u.mbcControlWrite 0x5FFF 0x04).aux = 0 ∧
      u.mbcControlWrite 0x6000 0xFF = u.mbc ∧ u.mbcControlWrite 0x7FFF 0xFF = u.mbc ∧
      start.bus.mbcControlWrite 0x0000 0x0A = start.bus.mbc ∧ start.busWrite 0xA000 0x55 = start ∧
      start.busWrite 0xBFFF 0x55 = start := by decide

/-- MBC5 at the ends of its ranges. -/
theorem witness_Mbc5Control :
    let u := (withCart .mbc5 8 16 []).bus
    u.cart.kind = .mbc5 ∧ (u.mbcControlWrite 0x0000 0x3A).ramEnable = true ∧
      (u.mbcControlWrite 0x1FFF 0x0B).ramEnable = false ∧ (u.mbcControlWrite 0x2000 0x00).romLow = 0x00 ∧
      (u.mbcControlWrite 0x2FFF 0xFF).romLow = 0xFF ∧ (u.mbcControlWrite 0x3000 0xFF).romHigh = 1 ∧
      (u.mbcControlWrite 0x3FFF 0xFE).romHigh = 0 ∧ (u.mbcControlWrite 0x4000 0x1F).aux = 0xF ∧
      (u.mbcControlWrite 0x5FFF 0x10).aux = 0 ∧ u.mbcControlWrite 0x6000 0xFF = u.mbc ∧
      u.mbcControlWrite 0x7FFF 0xFF = u.mbc ∧ Bus.selRomBank { u with mbc.romLow := 0, mbc.romHigh := 0 } = 1 ∧
      Bus.selRomBank { u with mbc.romLow := 0, mbc.romHigh := 1 } = 0x100 := by decide

/-- A stack in work RAM, and one that wraps: SP 0001 would write ROM, SP 0000 writes IE and high RAM. -/
theorem witness_WordsAreLittleEndian :
    start.Inv ∧ start.bus.plainByte (start.sp - 1) ∧ start.bus.plainByte (start.sp - 2) ∧
      start.bus.plainByte ((0x0000 : Word) - 1) ∧ start.bus.plainByte ((0x0000 : Word) - 2) ∧
      start.bus.plainByte 0xDFFF ∧ start.bus.plainByte (0xDFFF + 1) := by decide

/-! ### Frames -/

theorem witness_RegisterFrame :
    (Instr.popAf).wellFormed = true ∧ (∃ t : State, exec .popAf start = .next t) ∧ Piece.reg .b ∉ Instr.popAf.form.writes ∧
      Instr.popAf.form.jumps = false := ⟨rfl, ⟨_, rfl⟩, by decide, rfl⟩

/-- Some next state, for a witness that asks for one. -/
theorem goesOn (i : Instr) (s : State) : ∃ t : State, exec i s = .next t := by
  rw [exec_eq_run]
  exact run_next _ _

/-- A form with two stores and one with none. -/
theorem witness_MemoryChangesOnlyByStores :
    (∃ t : State, exec .pushBc start = .next t) ∧ Instr.pushBc.form.stores start = [0xFFFD, 0xFFFC] ∧
      (∃ t : State, exec .addAB start = .next t) ∧ Instr.addAB.form.stores start = [] ∧
      Instr.pushBc.wellFormed = true ∧ Instr.addAB.wellFormed = true :=
  ⟨goesOn .pushBc start, by decide, goesOn .addAB start, by decide, rfl, rfl⟩

/-- Stores that are none of them control writes. -/
theorem witness_MemoryFrame :
    start.Inv ∧ Instr.pushBc.wellFormed = true ∧ (∃ t : State, exec .pushBc start = .next t) ∧
      (∀ a ∈ Instr.pushBc.form.stores start, ¬ isControl a) ∧
      (∀ a ∈ Instr.pushBc.form.stores start, ¬ sameByte a 0xFFFB) := by
  have h : Instr.pushBc.form.stores start = [0xFFFD, 0xFFFC] := by decide
  rw [h]
  simp only [List.forall_mem_cons]
  exact ⟨by decide, rfl, goesOn _ _, ⟨by decide, by decide, by simp⟩, ⟨by decide, by decide, by simp⟩⟩

/-- A state whose HL points into ROM. -/
def hlInRom : State := { start with h := 0x20, l := 0x00 }

/-- A store that is a control write, with a byte on each side of the two cartridge windows. -/
theorem witness_MemoryFrame_control :
    hlInRom.Inv ∧ Instr.ldIndHlA.wellFormed = true ∧ (∃ t : State, exec .ldIndHlA hlInRom = .next t) ∧
      (∀ a ∈ Instr.ldIndHlA.form.stores hlInRom, isControl a) ∧ (0x3FFF : Word).toNat < 0x4000 ∧
      0x7FFF < (0x8000 : Word).toNat := by
  have h : Instr.ldIndHlA.form.stores hlInRom = [0x2000] := by decide
  rw [h]
  simp only [List.forall_mem_cons]
  exact ⟨by decide, rfl, goesOn _ _, ⟨by decide, by simp⟩, by decide, by decide⟩

/-! ### Results -/

/-- What `ADC A,B` and then `DAA` leave. -/
def adcThenDaa (s : State) : State := (decimalAdjust ((aluOperand .adc (.reg .b) s).setCycles 4)).setCycles 4

/-- What `SBC A,B` and then `DAA` leave. -/
def sbcThenDaa (s : State) : State := (decimalAdjust ((aluOperand .sbc (.reg .b) s).setCycles 4)).setCycles 4

/-- 99 + 99 + 1 and 00 - 99 - 1 in BCD; from every state both instructions go on. -/
theorem witness_DecimalAdjustGivesBcd :
    (∀ s : State, ∃ t : State, exec .adcAB s = .next t ∧ exec .daa t = .next (adcThenDaa s)) ∧
      (∀ s : State, ∃ t : State, exec .sbcAB s = .next t ∧ exec .daa t = .next (sbcThenDaa s)) ∧
      (adcThenDaa { start with a := 0x99, b := 0x99, f := 0x10 }).a = 0x99 ∧
      (sbcThenDaa { start with a := 0x00, b := 0x99, f := 0x10 }).a = 0x00 :=
  ⟨fun _ => ⟨_, rfl, rfl⟩, fun _ => ⟨_, rfl, rfl⟩, by decide, by decide⟩

theorem witness_EngineInstructions :
    ((requests start 0x01 0x01).ime = false ∧
      (requests start 0x01 0x01).busRead 0xFFFF &&& (requests start 0x01 0x01).busRead 0xFF0F &&& 0x1F ≠ 0) ∧
    start.busRead 0xFFFF &&& start.busRead 0xFF0F &&& 0x1F = 0 ∧ ({ start with ime := true } : State).ime = true := by decide

/-! ### Runs -/

/-- A run that its argument ends at its first step, and one that the host ends. -/
theorem witness_RunEndsByItsArgument :
    (∃ t : State, runUntil endOfRun 5 (code 0xC000 [0x18, 0xFE] start) = .next (true, t) ∧ t.inputs = []) ∧
    (∃ t : State, runUntil endOfRun 1 (code 0xC000 [0x00] start) = .next (false, t)) ∧
    (∃ u v : State, core.run 0 start = .next u ∧ step u = .next v) :=
  ⟨⟨_, rfl, rfl⟩, ⟨_, rfl⟩, ⟨_, _, rfl, rfl⟩⟩

end Sys2Proof.Tests
end

