-- ==== Sys2Proof/Tests/Words.lean ====
section
/-! SUPPORT. Decode tests: every byte of the two opcode tables of the spec (30_encoding R108, R109; the bytes are
spec/opcode_table.json's), row by row, each with the operand bytes 34 12 behind it (R66: a word's low byte comes first). -/

namespace Sys2Proof.Tests

/-- The instruction at the front of some bytes. -/
def read (bytes : List Byte) : Option Instr :=
  match decode bytes with
  | .ok (i, _) => some i
  | .error _ => none

/-- What follows the instruction at the front of some bytes. -/
def behind (bytes : List Byte) : Option (List Byte) :=
  match decode bytes with
  | .ok (_, rest) => some rest
  | .error _ => none

/-- Row `h` of the primary table, with the bytes 34 12 behind each byte. -/
def primaryRow (h : Nat) : List (Option Instr) :=
  (List.range 16).map fun l => read [BitVec.ofNat 8 (16 * h + l), 0x34, 0x12]

/-- Row `h` of the extended table. -/
def extendedRow (h : Nat) : List (Option Instr) :=
  (List.range 16).map fun l => read [0xCB, BitVec.ofNat 8 (16 * h + l)]

/-- R108, row 0x. -/
theorem test_decode_0x :
    primaryRow 0x0 =
      [.nop, (.ldBcNn 0x1234), .ldIndBcA, .incBc, .incB, .decB, (.ldBN 0x34), .rlca, (.ldIndNnSp 0x1234),
       .addHlBc, .ldAIndBc, .decBc, .incC, .decC, (.ldCN 0x34), .rrca].map some := by rfl

/-- R108, row 1x. -/
theorem test_decode_1x :
    primaryRow 0x1 =
      [(.stop 0x34), (.ldDeNn 0x1234), .ldIndDeA, .incDe, .incD, .decD, (.ldDN 0x34), .rla, (.jrE 0x34),
       .addHlDe, .ldAIndDe, .decDe, .incE, .decE, (.ldEN 0x34), .rra].map some := by rfl

/-- R108, row 2x. -/
theorem test_decode_2x :
    primaryRow 0x2 =
      [(.jrNzE 0x34), (.ldHlNn 0x1234), .ldHlIncA, .incHl, .incH, .decH, (.ldHN 0x34), .daa, (.jrZE 0x34),
       .addHlHl, .ldAHlInc, .decHl, .incL, .decL, (.ldLN 0x34), .cpl].map some := by rfl

/-- R108, row 3x. -/
theorem test_decode_3x :
    primaryRow 0x3 =
      [(.jrNcE 0x34), (.ldSpNn 0x1234), .ldHlDecA, .incSp, .incIndHl, .decIndHl, (.ldIndHlN 0x34), .scf,
       (.jrCE 0x34), .addHlSp, .ldAHlDec, .decSp, .incA, .decA, (.ldAN 0x34), .ccf].map some := by rfl

/-- R108, row 4x. -/
theorem test_decode_4x :
    primaryRow 0x4 =
      [.ldBB, .ldBC, .ldBD, .ldBE, .ldBH, .ldBL, .ldBIndHl, .ldBA, .ldCB, .ldCC, .ldCD, .ldCE, .ldCH,
       .ldCL, .ldCIndHl, .ldCA].map some := by rfl

/-- R108, row 5x. -/
theorem test_decode_5x :
    primaryRow 0x5 =
      [.ldDB, .ldDC, .ldDD, .ldDE, .ldDH, .ldDL, .ldDIndHl, .ldDA, .ldEB, .ldEC, .ldED, .ldEE, .ldEH,
       .ldEL, .ldEIndHl, .ldEA].map some := by rfl

/-- R108, row 6x. -/
theorem test_decode_6x :
    primaryRow 0x6 =
      [.ldHB, .ldHC, .ldHD, .ldHE, .ldHH, .ldHL, .ldHIndHl, .ldHA, .ldLB, .ldLC, .ldLD, .ldLE, .ldLH,
       .ldLL, .ldLIndHl, .ldLA].map some := by rfl

/-- R108, row 7x. -/
theorem test_decode_7x :
    primaryRow 0x7 =
      [.ldIndHlB, .ldIndHlC, .ldIndHlD, .ldIndHlE, .ldIndHlH, .ldIndHlL, .halt, .ldIndHlA, .ldAB, .ldAC,
       .ldAD, .ldAE, .ldAH, .ldAL, .ldAIndHl, .ldAA].map some := by rfl

/-- R108, row 8x. -/
theorem test_decode_8x :
    primaryRow 0x8 =
      [.addAB, .addAC, .addAD, .addAE, .addAH, .addAL, .addAIndHl, .addAA, .adcAB, .adcAC, .adcAD, .adcAE,
       .adcAH, .adcAL, .adcAIndHl, .adcAA].map some := by rfl

/-- R108, row 9x. -/
theorem test_decode_9x :
    primaryRow 0x9 =
      [.subB, .subC, .subD, .subE, .subH, .subL, .subIndHl, .subA, .sbcAB, .sbcAC, .sbcAD, .sbcAE, .sbcAH,
       .sbcAL, .sbcAIndHl, .sbcAA].map some := by rfl

/-- R108, row Ax. -/
theorem test_decode_Ax :
    primaryRow 0xA =
      [.andB, .andC, .andD, .andE, .andH, .andL, .andIndHl, .andA, .xorB, .xorC, .xorD, .xorE, .xorH,
       .xorL, .xorIndHl, .xorA].map some := by rfl

/-- R108, row Bx. -/
theorem test_decode_Bx :
    primaryRow 0xB =
      [.orB, .orC, .orD, .orE, .orH, .orL, .orIndHl, .orA, .cpB, .cpC, .cpD, .cpE, .cpH, .cpL, .cpIndHl,
       .cpA].map some := by rfl

/-- R108, row Cx; behind the prefix byte CB the byte 34 selects the extended table (R109). -/
theorem test_decode_Cx :
    primaryRow 0xC =
      [.retNz, .popBc, (.jpNzNn 0x1234), (.jpNn 0x1234), (.callNzNn 0x1234), .pushBc, (.addAN 0x34),
       .rst00h, .retZ, .ret, (.jpZNn 0x1234), .swapH, (.callZNn 0x1234), (.callNn 0x1234), (.adcAN 0x34),
       .rst08h].map some := by rfl

/-- R108, row Dx. -/
theorem test_decode_Dx :
    primaryRow 0xD =
      [.retNc, .popDe, (.jpNcNn 0x1234), .illegalD3, (.callNcNn 0x1234), .pushDe, (.subN 0x34), .rst10h,
       .retC, .reti, (.jpCNn 0x1234), .illegalDB, (.callCNn 0x1234), .illegalDD, (.sbcAN 0x34), .rst18h].map some := by rfl

/-- R108, row Ex. -/
theorem test_decode_Ex :
    primaryRow 0xE =
      [(.ldhIndNA 0x34), .popHl, .ldhIndCA, .illegalE3, .illegalE4, .pushHl, (.andN 0x34), .rst20h,
       (.addSpE 0x34), .jpHl, (.ldIndNnA 0x1234), .illegalEB, .illegalEC, .illegalED, (.xorN 0x34), .rst28h].map some := by rfl

/-- R108, row Fx. -/
theorem test_decode_Fx :
    primaryRow 0xF =
      [(.ldhAIndN 0x34), .popAf, .ldhAIndC, .di, .illegalF4, .pushAf, (.orN 0x34), .rst30h,
       (.ldHlSpE 0x34), .ldSpHl, (.ldAIndNn 0x1234), .ei, .illegalFC, .illegalFD, (.cpN 0x34), .rst38h].map some := by rfl

/-- R109, row 0x. -/
theorem test_decode_cb_0x :
    extendedRow 0x0 =
      [.rlcB, .rlcC, .rlcD, .rlcE, .rlcH, .rlcL, .rlcIndHl, .rlcA, .rrcB, .rrcC, .rrcD, .rrcE, .rrcH,
       .rrcL, .rrcIndHl, .rrcA].map some := by rfl

/-- R109, row 1x. -/
theorem test_decode_cb_1x :
    extendedRow 0x1 =
      [.rlB, .rlC, .rlD, .rlE, .rlH, .rlL, .rlIndHl, .rlA, .rrB, .rrC, .rrD, .rrE, .rrH, .rrL, .rrIndHl,
       .rrA].map some := by rfl

/-- R109, row 2x. -/
theorem test_decode_cb_2x :
    extendedRow 0x2 =
      [.slaB, .slaC, .slaD, .slaE, .slaH, .slaL, .slaIndHl, .slaA, .sraB, .sraC, .sraD, .sraE, .sraH,
       .sraL, .sraIndHl, .sraA].map some := by rfl

/-- R109, row 3x. -/
theorem test_decode_cb_3x :
    extendedRow 0x3 =
      [.swapB, .swapC, .swapD, .swapE, .swapH, .swapL, .swapIndHl, .swapA, .srlB, .srlC, .srlD, .srlE,
       .srlH, .srlL, .srlIndHl, .srlA].map some := by rfl

/-- R109, row 4x. -/
theorem test_decode_cb_4x :
    extendedRow 0x4 =
      [.bit0B, .bit0C, .bit0D, .bit0E, .bit0H, .bit0L, .bit0IndHl, .bit0A, .bit1B, .bit1C, .bit1D, .bit1E,
       .bit1H, .bit1L, .bit1IndHl, .bit1A].map some := by rfl

/-- R109, row 5x. -/
theorem test_decode_cb_5x :
    extendedRow 0x5 =
      [.bit2B, .bit2C, .bit2D, .bit2E, .bit2H, .bit2L, .bit2IndHl, .bit2A, .bit3B, .bit3C, .bit3D, .bit3E,
       .bit3H, .bit3L, .bit3IndHl, .bit3A].map some := by rfl

/-- R109, row 6x. -/
theorem test_decode_cb_6x :
    extendedRow 0x6 =
      [.bit4B, .bit4C, .bit4D, .bit4E, .bit4H, .bit4L, .bit4IndHl, .bit4A, .bit5B, .bit5C, .bit5D, .bit5E,
       .bit5H, .bit5L, .bit5IndHl, .bit5A].map some := by rfl

/-- R109, row 7x. -/
theorem test_decode_cb_7x :
    extendedRow 0x7 =
      [.bit6B, .bit6C, .bit6D, .bit6E, .bit6H, .bit6L, .bit6IndHl, .bit6A, .bit7B, .bit7C, .bit7D, .bit7E,
       .bit7H, .bit7L, .bit7IndHl, .bit7A].map some := by rfl

/-- R109, row 8x. -/
theorem test_decode_cb_8x :
    extendedRow 0x8 =
      [.res0B, .res0C, .res0D, .res0E, .res0H, .res0L, .res0IndHl, .res0A, .res1B, .res1C, .res1D, .res1E,
       .res1H, .res1L, .res1IndHl, .res1A].map some := by rfl

/-- R109, row 9x. -/
theorem test_decode_cb_9x :
    extendedRow 0x9 =
      [.res2B, .res2C, .res2D, .res2E, .res2H, .res2L, .res2IndHl, .res2A, .res3B, .res3C, .res3D, .res3E,
       .res3H, .res3L, .res3IndHl, .res3A].map some := by rfl

/-- R109, row Ax. -/
theorem test_decode_cb_Ax :
    extendedRow 0xA =
      [.res4B, .res4C, .res4D, .res4E, .res4H, .res4L, .res4IndHl, .res4A, .res5B, .res5C, .res5D, .res5E,
       .res5H, .res5L, .res5IndHl, .res5A].map some := by rfl

/-- R109, row Bx. -/
theorem test_decode_cb_Bx :
    extendedRow 0xB =
      [.res6B, .res6C, .res6D, .res6E, .res6H, .res6L, .res6IndHl, .res6A, .res7B, .res7C, .res7D, .res7E,
       .res7H, .res7L, .res7IndHl, .res7A].map some := by rfl

/-- R109, row Cx. -/
theorem test_decode_cb_Cx :
    extendedRow 0xC =
      [.set0B, .set0C, .set0D, .set0E, .set0H, .set0L, .set0IndHl, .set0A, .set1B, .set1C, .set1D, .set1E,
       .set1H, .set1L, .set1IndHl, .set1A].map some := by rfl

/-- R109, row Dx. -/
theorem test_decode_cb_Dx :
    extendedRow 0xD =
      [.set2B, .set2C, .set2D, .set2E, .set2H, .set2L, .set2IndHl, .set2A, .set3B, .set3C, .set3D, .set3E,
       .set3H, .set3L, .set3IndHl, .set3A].map some := by rfl

/-- R109, row Ex. -/
theorem test_decode_cb_Ex :
    extendedRow 0xE =
      [.set4B, .set4C, .set4D, .set4E, .set4H, .set4L, .set4IndHl, .set4A, .set5B, .set5C, .set5D, .set5E,
       .set5H, .set5L, .set5IndHl, .set5A].map some := by rfl

/-- R109, row Fx. -/
theorem test_decode_cb_Fx :
    extendedRow 0xF =
      [.set6B, .set6C, .set6D, .set6E, .set6H, .set6L, .set6IndHl, .set6A, .set7B, .set7C, .set7D, .set7E,
       .set7H, .set7L, .set7IndHl, .set7A].map some := by rfl

/-- Lengths 1, 2 and 3 and the prefix (R100, R112): what is left behind `NOP`, `LD B,n`, `JP nn`, `BIT 0,B` and an illegal
opcode. -/
theorem test_decode_lengths :
    behind [0x00, 0xAA] = some [0xAA] ∧ behind [0x06, 0x34, 0xAA] = some [0xAA] ∧
      behind [0xC3, 0x34, 0x12, 0xAA] = some [0xAA] ∧ behind [0xCB, 0x40, 0xAA] = some [0xAA] ∧
      behind [0xD3, 0xAA] = some [0xAA] := by decide

/-- Too few bytes are no instruction; nothing else is refused (R110, R116). -/
theorem test_decode_short :
    read [] = none ∧ read [0x06] = none ∧ read [0xC3, 0x34] = none ∧ read [0xCB] = none := by decide

/-- The numbering of spec/opcode_table.json (R113): an extended row's first byte, the prefix, is the high byte of its
16 bits; `SRA H` is CB2C there. -/
theorem test_table_word :
    decodeTableWord 8 0x41 = some .ldBC ∧ decodeTableWord 16 0xCB2C = some .sraH ∧
      decodeTableWord 8 0xC3 = some (.jpNn 0x0000) := by decide

end Sys2Proof.Tests
end

section
/-! PROOFS. The family 00_scope: what the outside can do between two steps (R6, R289), which cartridges a machine is
constructed around (R9 to R11, R75), and how a run ends (R9, R343). -/

namespace Sys2Proof.Machine

/-! ### Moves of the outside (R6, R289) -/

/-- The addresses the outside writes to (D31): the I/O window and IE. -/
def inOutsideWindow (a : Word) : Prop := regionOf a = .io ∨ regionOf a = .ie

theorem inOutsideWindow_bounds (a : Word) (h : inOutsideWindow a) :
    0xFF00 ≤ a.toNat ∧ (a.toNat ≤ 0xFF7F ∨ a.toNat = 0xFFFF) := by
  have hb := regionOf_bounds a
  rcases h with h | h <;> rw [h] at hb <;> simp only [Region.first, Region.last] at hb <;> omega

theorem not_isControl_of_inOutsideWindow (a : Word) (h : inOutsideWindow a) : ¬ isControl a := by
  have hb := inOutsideWindow_bounds a h
  unfold isControl
  omega

/-- Every byte of the window keeps what is written there (D30, D27). -/
theorem plainByte_of_inOutsideWindow (u : Bus) (a : Word) (h : inOutsideWindow a) : u.plainByte a := by
  refine ⟨not_isControl_of_inOutsideWindow a h, ?_, ?_⟩ <;> rcases h with h | h <;> rw [h] <;> simp

/-- No address outside the window, echo addresses included, names a byte of the window (R59). -/
theorem not_sameByte_of_inOutsideWindow (a b : Word) (h : inOutsideWindow a)
    (hb : b.toNat < 0xFF00 ∨ 0xFF7F < b.toNat) (hie : b ≠ 0xFFFF) : ¬ sameByte a b := by
  intro hs
  have ha := inOutsideWindow_bounds a h
  have hie : b.toNat ≠ 0xFFFF := fun e => hie (BitVec.eq_of_toNat_eq e)
  have haEcho : regionOf a ≠ .echo := by rcases h with h | h <;> rw [h] <;> simp
  have hbEcho := regionOf_bounds b
  have hs := congrArg BitVec.toNat hs
  rw [canonicalAddr_toNat, canonicalAddr_toNat, if_neg haEcho] at hs
  split at hs
  · rename_i he
    rw [he] at hbEcho
    simp only [Region.first, Region.last] at hbEcho
    omega
  · omega

/-- The address of offset `o` of the I/O window. -/
theorem ioAddr_eq (o : BitVec 7) :
    Word.join 0xFF (BitVec.setWidth 8 o) = BitVec.ofNat 16 (0xFF00 + o.toNat) := by
  revert o
  decide

theorem ioAddr_inOutsideWindow (o : BitVec 7) : inOutsideWindow (Word.join 0xFF (BitVec.setWidth 8 o)) := by
  left
  have := o.isLt
  have e : (Word.join 0xFF (BitVec.setWidth 8 o)).toNat = 0xFF00 + o.toNat := by
    rw [ioAddr_eq, BitVec.toNat_ofNat]
    omega
  apply regionOf_eq <;> simp only [Region.first, Region.last] <;> omega

theorem ieAddr_inOutsideWindow : inOutsideWindow Config.ieAddr := Or.inr rfl

theorem ifAddr_inOutsideWindow : inOutsideWindow Config.ifAddr := Or.inl rfl

/-- Every move of the outside but reset is one bus write into the window (D31). -/
theorem applyMove_eq_busWrite (s : State) (m : EnvMove) (h : ∀ init : ResetInit, m ≠ .reset init) :
    ∃ (a : Word) (v : Byte), inOutsideWindow a ∧ s.applyMove m = s.busWrite a v := by
  cases m with
  | writeIo o v => exact ⟨_, v, ioAddr_inOutsideWindow o, rfl⟩
  | writeIe v => exact ⟨_, v, ieAddr_inOutsideWindow, rfl⟩
  | raise i => exact ⟨_, _, ifAddr_inOutsideWindow, rfl⟩
  | clear i => exact ⟨_, _, ifAddr_inOutsideWindow, rfl⟩
  | reset init => exact absurd rfl (h init)

/-- A byte written into the window reads back (D30, D27). -/
theorem busRead_busWrite_window (s : State) (a : Word) (v : Byte) (hs : s.bus.ok) (ha : inOutsideWindow a) :
    (s.busWrite a v).busRead a = v :=
  read_write_same s.bus a v hs (plainByte_of_inOutsideWindow s.bus a ha)

/-- A write into the window leaves every byte outside it. -/
theorem busRead_busWrite_outside_window (s : State) (a b : Word) (v : Byte) (hs : s.bus.ok) (ha : inOutsideWindow a)
    (hb : b.toNat < 0xFF00 ∨ 0xFF7F < b.toNat) (hie : b ≠ 0xFFFF) : (s.busWrite a v).busRead b = s.busRead b :=
  read_write_other s.bus a b v hs (not_isControl_of_inOutsideWindow a ha)
    (not_sameByte_of_inOutsideWindow a b ha hb hie)

/-- Settles O22: every move but reset is one bus write into the window, so the laws of a bus write give both what it
leaves and what it puts there. -/
theorem outsideActsThroughTheWindow : Obligations.OutsideActsThroughTheWindow := by
  unfold Obligations.OutsideActsThroughTheWindow
  intro s ⟨_, hs, _⟩
  refine ⟨fun m hm => ?_, fun o v => ?_, fun v => ?_, fun i => ?_, fun i => ?_⟩
  · obtain ⟨a, v, ha, e⟩ := applyMove_eq_busWrite s m hm
    rw [e]
    exact ⟨rfl, rfl, write_cart _ _ _, write_mbc _ _ _ (not_isControl_of_inOutsideWindow a ha),
      fun b hb hie => busRead_busWrite_outside_window s a b v hs ha hb hie⟩
  · rw [← ioAddr_eq]
    exact busRead_busWrite_window s _ v hs (ioAddr_inOutsideWindow o)
  · exact busRead_busWrite_window s _ v hs ieAddr_inOutsideWindow
  · exact busRead_busWrite_window s _ _ hs ifAddr_inOutsideWindow
  · exact busRead_busWrite_window s _ _ hs ifAddr_inOutsideWindow

/-! ### Constructing a machine (R9, R10, R11, R75) -/

/-- The controller kinds the spec gives rules for (D20). -/
theorem supported_iff (kind : ControllerKind) :
    (∃ k, kind.supported = some k) ↔ kind = .romOnly ∨ kind = .mbc1 ∨ kind = .mbc3 ∨ kind = .mbc5 := by
  cases kind <;> simp [ControllerKind.supported]

/-- When `construct` answers a machine, and which (R342). -/
theorem construct_eq_next_iff (kind : ControllerKind) (c length banks : Nat) (rom : List Host.Cell) (base : Baseline)
    (init : ResetInit) (t : State) :
    construct kind c length banks rom base init = .next t ↔
      ∃ (k : MbcKind) (hc : c < 9) (hr : banks < 17), kind.supported = some k ∧ length = 0x8000 <<< c ∧
        State.powerOn { kind := k, sizeCode := ⟨c, hc⟩, ramBanks := ⟨banks, hr⟩, rom := rom } base init = t := by
  unfold construct
  cases kind.supported with
  | none => simp
  | some k =>
    by_cases hc : c < 9
    · by_cases hl : length = 0x8000 <<< c
      · by_cases hr : banks < 17 <;> simp [hc, hl, hr]
      · simp [hc, hl]
    · simp [hc]

/-- Settles O23: `construct_eq_next_iff` says when there is a next state and what it is built from. -/
theorem constructAcceptsValidCartridges : Obligations.ConstructAcceptsValidCartridges := by
  unfold Obligations.ConstructAcceptsValidCartridges
  intro kind c length banks rom base init
  simp only [construct_eq_next_iff, ← supported_iff]
  constructor
  · constructor
    · rintro ⟨t, k, hc, hr, hk, hl, -⟩
      exact ⟨⟨k, hk⟩, by omega, hl, by omega⟩
    · rintro ⟨⟨k, hk⟩, hc, hl, hr⟩
      exact ⟨_, k, by omega, by omega, hk, hl, rfl⟩
  · rintro t ⟨k, hc, hr, hk, -, rfl⟩
    exact ⟨rfl, rfl, rfl, hk⟩

/-! ### Every step goes on (R285) -/

theorem runInstr_next (s : State) : ∃ t : State, s.runInstr = .next t := by
  obtain ⟨t, ht⟩ := run_next s.fetchInstr.1.form s.fetchInstr.2
  refine ⟨t.finishEnable s.imePending, ?_⟩
  rw [State.runInstr, exec_eq_run, ht]
  rfl

theorem serve_next (s : State) : ∃ t : State, s.serve = .next t := by
  unfold State.serve
  split
  · exact ⟨_, rfl⟩
  · exact runInstr_next s

theorem engineStep_next (s : State) (wake : Bool) : ∃ t : State, s.engineStep wake = .next t := by
  unfold State.engineStep
  split
  · exact ⟨_, rfl⟩
  · split
    · exact serve_next _
    · exact ⟨_, rfl⟩
  · split
    · exact ⟨_, rfl⟩
    · exact serve_next _
  · exact serve_next _

theorem step_next (s : State) : ∃ t : State, step s = .next t := engineStep_next _ _

/-! ### A run goes on exactly as long as its argument lets it (R343) -/

/-- `ends`, asked at the `j`-th step from `s`, answers `b`. -/
def EndsAt (ends : EndOfRun) (s : State) (j : Nat) (b : Bool) : Prop :=
  ∀ u v : State, core.run j s = .next u → step u = .next v → ends u.takeInput.1 u.takeInput.2 v = b

theorem endsAt_zero (ends : EndOfRun) (s t : State) (h : step s = .next t) :
    EndsAt ends s 0 (ends s.takeInput.1 s.takeInput.2 t) := by
  intro u v hu hv
  rw [coreRun_zero] at hu
  cases hu
  rw [h] at hv
  cases hv
  rfl

theorem endsAt_succ (ends : EndOfRun) (s t : State) (j : Nat) (b : Bool) (h : step s = .next t) (ht : EndsAt ends t j b) :
    EndsAt ends s (j + 1) b := by
  intro u v hu hv
  rw [coreRun_succ j s t h] at hu
  exact ht u v hu hv

/-- A run of at most `n` steps from `s` made `k` of them, stands in `t`, and was ended by `ends` or not. -/
def RunMade (ends : EndOfRun) (n : Nat) (s : State) (ended : Bool) (k : Nat) (t : State) : Prop :=
  runUntil ends n s = .next (ended, t) ∧ core.run k s = .next t ∧ k ≤ n ∧ (if ended then 1 ≤ k else k = n) ∧
    ∀ j : Nat, (j + 1 < k → EndsAt ends s j false) ∧ (j + 1 = k → EndsAt ends s j ended)

theorem runMade_zero (ends : EndOfRun) (s : State) : RunMade ends 0 s false 0 s :=
  ⟨rfl, rfl, Nat.le_refl 0, rfl, fun j => ⟨by omega, by omega⟩⟩

/-- The first step ends the run. -/
theorem runMade_one (ends : EndOfRun) (n : Nat) (s t : State) (h : step s = .next t)
    (he : ends s.takeInput.1 s.takeInput.2 t = true) : RunMade ends (n + 1) s true 1 t := by
  refine ⟨?_, ?_, by omega, by simp, fun j => ⟨by omega, fun hj => ?_⟩⟩
  · rw [runUntil_succ ends n s t h, if_pos he]
  · rw [coreRun_succ 0 s t h, coreRun_zero]
  · obtain rfl : j = 0 := by omega
    exact he ▸ endsAt_zero ends s t h

/-- The first step does not end the run: it goes on as the run from the state that step left. -/
theorem runMade_succ (ends : EndOfRun) (n : Nat) (s s' : State) (h : step s = .next s')
    (he : ends s.takeInput.1 s.takeInput.2 s' = false) (ended : Bool) (k : Nat) (t : State)
    (hr : RunMade ends n s' ended k t) : RunMade ends (n + 1) s ended (k + 1) t := by
  obtain ⟨hrun, hcore, hk, hended, hends⟩ := hr
  have h0 : EndsAt ends s 0 false := he ▸ endsAt_zero ends s s' h
  refine ⟨?_, ?_, by omega, ?_, fun j => ?_⟩
  · rw [runUntil_succ ends n s s' h, he]
    exact hrun
  · rw [coreRun_succ k s s' h, hcore]
  · cases ended
    · simpa using hended
    · simp
  · cases j with
    | zero =>
      refine ⟨fun _ => h0, fun hk0 => ?_⟩
      obtain rfl : k = 0 := by omega
      cases ended
      · exact h0
      · simp at hended
    | succ j =>
      exact ⟨fun hj => endsAt_succ ends s s' j false h ((hends j).1 (by omega)),
        fun hj => endsAt_succ ends s s' j ended h ((hends j).2 (by omega))⟩

theorem exists_runMade (ends : EndOfRun) (n : Nat) (s : State) :
    ∃ (ended : Bool) (k : Nat) (t : State), RunMade ends n s ended k t := by
  induction n generalizing s with
  | zero => exact ⟨_, _, _, runMade_zero ends s⟩
  | succ n ih =>
    obtain ⟨s', h⟩ := step_next s
    cases he : ends s.takeInput.1 s.takeInput.2 s' with
    | true => exact ⟨_, _, _, runMade_one ends n s s' h he⟩
    | false =>
      obtain ⟨ended, k, t, hr⟩ := ih s'
      exact ⟨_, _, _, runMade_succ ends n s s' h he ended k t hr⟩

/-- A run that ended did so in a step that its argument is true of. -/
theorem last_step_of_runUntil (ends : EndOfRun) (n : Nat) (s t : State) (h : runUntil ends n s = .next (true, t)) :
    ∃ u : State, step u = .next t ∧ ends u.takeInput.1 u.takeInput.2 t = true := by
  induction n generalizing s with
  | zero => simp at h
  | succ n ih =>
    obtain ⟨s', hs⟩ := step_next s
    rw [runUntil_succ ends n s s' hs] at h
    split at h
    · rename_i he
      cases h
      exact ⟨s, hs, he⟩
    · exact ih s' h

/-! ### The jump to itself (R254, R343) -/

/-- PC stands on `JR` to itself, and the halt bug will not make the fetch read its opcode as the displacement (R291). -/
def State.AtSelfJump (s : State) : Prop := s.haltBug = false ∧ s.busRead s.pc = 0x18 ∧ s.busRead (s.pc + 1) = 0xFE

/-- A fetched `JR e` has the opcode 18, and `e` is the byte fetched next (R108). -/
theorem bytes_of_fetchInstr_eq_jrE (s : State) (e : Byte) (h : s.fetchInstr.1 = .jrE e) :
    s.fetchOpcode.1 = 0x18 ∧ s.fetchOpcode.2.fetch8.1 = e := by
  have hspec := primarySlot_spec s.fetchOpcode.1
  unfold State.fetchInstr at h
  cases hslot : primarySlot s.fetchOpcode.1 with
  | op i =>
    simp only [hslot] at h hspec
    have henc : [0x18, e] = [s.fetchOpcode.1] := (h ▸ hspec.2 :)
    simp at henc
  | opN f =>
    simp only [hslot] at h hspec
    have henc : [0x18, e] = [s.fetchOpcode.1, s.fetchOpcode.2.fetch8.1] := (h ▸ (hspec _).2 :)
    simp only [List.cons.injEq, and_true] at henc
    exact ⟨henc.1.symm, henc.2.symm⟩
  | opNN f =>
    simp only [hslot] at h hspec
    have henc := (hspec s.fetchOpcode.2.fetch16.1).2
    rw [h] at henc
    exact absurd (congrArg List.length henc) (by decide : ¬ 2 = 3)
  | cb =>
    simp only [hslot] at h
    have henc : [0x18, e] = [0xCB, s.fetchOpcode.2.fetch8.1] := (h ▸ (extendedInstr_spec _).2 :)
    simp at henc

/-- `JR FE` is fetched only without the halt bug, which would give 18 as the displacement too (R291). -/
theorem atSelfJump_of_fetchInstr (s : State) (h : s.fetchInstr.1 = .jrE 0xFE) : s.AtSelfJump := by
  obtain ⟨hop, he⟩ := bytes_of_fetchInstr_eq_jrE s 0xFE h
  change s.busRead s.pc = 0x18 at hop
  cases hb : s.haltBug with
  | false =>
    rw [State.fetchOpcode, hb] at he
    exact ⟨hb, hop, he⟩
  | true =>
    rw [State.fetchOpcode, hb] at he
    exact absurd (hop.symm.trans he) (by decide)

theorem fetchInstr_of_atSelfJump (s : State) (h : s.AtSelfJump) :
    s.fetchInstr = (.jrE 0xFE, { s with pc := s.pc + 1 + 1 }) := by
  obtain ⟨hb, hop, he⟩ := h
  have hfetch : s.fetchOpcode = (0x18, { s with pc := s.pc + 1 }) := by
    rw [State.fetchOpcode, hop, hb]
    rfl
  have hslot : primarySlot 0x18 = .opN .jrE := rfl
  have hdisp : ({ s with pc := s.pc + 1 } : State).fetch8.1 = 0xFE := he
  rw [State.fetchInstr, hfetch]
  simp only [hslot, hdisp]
  rfl

@[simp] theorem setCycles_cycles (s : State) (n : Nat) : (s.setCycles n).cycles = n := rfl

theorem exec_jrE (e : Byte) (s : State) : exec (.jrE e) s = done 12 (jumpRel e s) := rfl

/-- An instruction that leaves `imePending` alone ends with the enable made, if one was to come (R292). -/
theorem finishEnable_own (s : State) :
    s.finishEnable s.imePending = { s with ime := s.ime || s.imePending, imePending := false } := by
  unfold State.finishEnable
  cases h : s.imePending with
  | false => ext <;> simp [h]
  | true => simp

/-- The jump to itself changes the count and what the delayed enable changes, and nothing else (R254, R292). -/
theorem runInstr_of_atSelfJump (s : State) (h : s.AtSelfJump) :
    s.runInstr = .next { s with cycles := 12, ime := s.ime || s.imePending, imePending := false } := by
  have hpc : s.pc + 1 + 1 + Byte.sext 0xFE = s.pc := by
    rw [show Byte.sext 0xFE = 0xFFFE#16 from rfl]
    bv_omega
  have hjump : jumpRel 0xFE { s with pc := s.pc + 1 + 1 } = s := by
    rw [jumpRel, State.setPc, hpc]
  rw [State.runInstr, fetchInstr_of_atSelfJump s h, exec_jrE, hjump]
  exact congrArg Host.Outcome.next (finishEnable_own (s.setCycles 12))

/-! ### Where a run that the recommended argument ended stands (R343) -/

theorem pending_eq_zero_of_ie (s : State) (h : s.bus.ie &&& 0x1F = 0) : s.pending = 0 := by
  rw [pending_eq, BitVec.and_assoc, BitVec.and_comm _ 0x1F, ← BitVec.and_assoc, h]
  exact BitVec.zero_and

/-- With nothing dispatchable a Running step executes an instruction (R290). -/
theorem serve_of_nothingDispatchable (s : State) (h : s.nothingDispatchable = true) : s.serve = s.runInstr := by
  simp only [State.nothingDispatchable, Bool.or_eq_true, Bool.not_eq_true', beq_iff_eq] at h
  rw [State.serve, if_neg]
  rintro ⟨hime, hpending⟩
  rcases h with h | h
  · simp [h] at hime
  · exact hpending (pending_eq_zero_of_ie s h)

/-- A step that executes an instruction runs it in Running mode (R290, R294, R295). -/
theorem engineStep_of_executes (s : State) (wake : Bool) (h : s.executes wake = true) :
    s.engineStep wake = ({ s with mode := .running } : State).runInstr := by
  have hserve : (s.ime && s.pending != 0) = false →
      ({ s with mode := .running } : State).serve = ({ s with mode := .running } : State).runInstr := by
    intro hn
    have hn : ¬ (s.ime = true ∧ s.pending ≠ 0) := by simpa using hn
    exact if_neg hn
  unfold State.executes at h
  unfold State.engineStep
  cases hm : s.mode with
  | running =>
    simp only [hm, Bool.not_eq_true'] at h ⊢
    rw [← hserve h, ← hm]
  | halted =>
    simp only [hm, Bool.and_eq_true, Bool.not_eq_true', bne_iff_ne] at h ⊢
    rw [if_neg h.1, hserve (by simp [h.2])]
  | stopped =>
    simp only [hm, Bool.and_eq_true, Bool.not_eq_true'] at h ⊢
    rw [if_pos h.1, hserve h.2]
  | locked => simp [hm] at h

/-- The fixed points of the engine, but for the count: Locked; Halted with no source enabled; Running on a jump to itself
with nothing dispatchable and no enable to come. -/
def State.Resting (t : State) : Prop :=
  t.mode = .locked ∨
  (t.mode = .halted ∧ t.bus.ie &&& 0x1F = 0) ∨
  (t.mode = .running ∧ t.AtSelfJump ∧ t.imePending = false ∧ t.nothingDispatchable = true)

theorem resting_setCycles (t : State) (c : Nat) (h : t.Resting) : (t.setCycles c).Resting := h

theorem engineStep_of_resting (t : State) (wake : Bool) (h : t.Resting) :
    ∃ c : Nat, t.engineStep wake = .next (t.setCycles c) := by
  unfold State.engineStep
  rcases h with hm | ⟨hm, hie⟩ | ⟨hm, hjump, hpend, hnone⟩ <;> rw [hm]
  · exact ⟨_, rfl⟩
  · exact ⟨Config.cyclesTick, if_pos (pending_eq_zero_of_ie t hie)⟩
  · refine ⟨12, ?_⟩
    rw [serve_of_nothingDispatchable t hnone, runInstr_of_atSelfJump t hjump]
    exact congrArg Host.Outcome.next (State.ext_iff.2 (by simp [hpend]))

/-- From a fixed point, with the outside silent, any number of steps changes only the count. -/
theorem coreRun_of_resting (m : Nat) (t : State) (hin : t.inputs = []) (h : t.Resting) :
    ∃ c : Nat, core.run m t = .next (t.setCycles c) := by
  induction m generalizing t with
  | zero => exact ⟨t.cycles, rfl⟩
  | succ m ih =>
    obtain ⟨c, hc⟩ := engineStep_of_resting t false h
    have hstep : step t = .next (t.setCycles c) := by rw [step, State.takeInput, hin, hc]
    rw [coreRun_succ m t _ hstep]
    exact ih (t.setCycles c) hin (resting_setCycles t c h)

/-- A jump to itself that leaves nothing dispatchable leaves a fixed point: an enable still to come was made by it. -/
theorem resting_of_selfJump (s t : State) (wake : Bool) (hex : s.executes wake = true) (hjump : s.AtSelfJump)
    (hstep : s.engineStep wake = .next t) (hnone : t.nothingDispatchable = true) : t.Resting := by
  have hrun := runInstr_of_atSelfJump { s with mode := .running } hjump
  rw [← engineStep_of_executes s wake hex, hstep] at hrun
  cases hrun
  exact .inr (.inr ⟨rfl, hjump, rfl, hnone⟩)

/-- What the recommended argument ends a run in is a fixed point (R343). -/
theorem resting_of_endOfRun (s t : State) (wake : Bool) (hstep : s.engineStep wake = .next t)
    (h : endOfRun wake s t = true) : t.Resting := by
  simp only [endOfRun, Bool.or_eq_true, Bool.and_eq_true, beq_iff_eq] at h
  rcases h with (hm | ⟨⟨hm, -⟩, hie⟩) | ⟨⟨hex, hjr⟩, hnone⟩
  · exact .inl hm
  · exact .inr (.inl ⟨hm, hie⟩)
  · exact resting_of_selfJump s t wake hex (atSelfJump_of_fetchInstr s hjr) hstep hnone

/-- Settles O60, by induction on the limit for the first part; for the second, the run's last step left a fixed point. -/
theorem runEndsByItsArgument : Obligations.RunEndsByItsArgument := by
  unfold Obligations.RunEndsByItsArgument
  refine ⟨fun ends n s => ?_, fun n m s t hrun hin => ?_⟩
  · obtain ⟨ended, k, t, hrun, hcore, hk, hended, hends⟩ := exists_runMade ends n s
    exact ⟨ended, k, t, hrun, hcore, hk, hended, fun j u v hu hv =>
      ⟨fun hj => (hends j).1 hj u v hu hv, fun hj => (hends j).2 hj u v hu hv⟩⟩
  · obtain ⟨u, hstep, hend⟩ := last_step_of_runUntil endOfRun n s t hrun
    exact coreRun_of_resting m t hin (resting_of_endOfRun _ t _ hstep hend)

end Sys2Proof.Machine
end

section
/-! PROOFS. The family 10_state: what reset leaves (R35, R36, R320), what an instruction may change and what it leaves (R34),
and what every step keeps (R22, R30, R31, R33). -/

namespace Sys2Proof.Machine

/-! ### Reset (R35, R36, R320) -/

/-- Reset gives a state that satisfies the invariant, from any state whose ROM image fits its banks. -/
theorem applyReset_inv (s : State) (init : ResetInit) (h : Cartridge.ok s.bus.cart = true) : (s.applyReset init).Inv :=
  ⟨masked_low_nibble _, afterReset_ok _ _ h, fun _ => rfl⟩

theorem powerOn_inv (cart : Cartridge) (base : Baseline) (init : ResetInit) : (State.powerOn cart base init).Inv :=
  applyReset_inv _ init (Memory.ok_ofCells _ _)

/-- Settles O16: the bus by `reset_ok`, F and the halt bug as the reset state has them. -/
theorem resetStateInvariant : Obligations.ResetStateInvariant := by
  unfold Obligations.ResetStateInvariant
  exact ⟨rfl, reset_ok, fun h => nomatch h⟩

/-- Settles O20: the rows of the table are what `State.applyReset` puts there; the invariant after power-on is
`powerOn_inv`. -/
theorem resetEstablishesBaseline : Obligations.ResetEstablishesBaseline := by
  unfold Obligations.ResetEstablishesBaseline
  refine ⟨fun s init => ?_, ?_, powerOn_inv⟩
  · and_intros <;> rfl
  · rintro s rfl
    decide

/-- Settles O21: a canonical store is what its own listing gives. -/
theorem resetLeavesAnyMemory : Obligations.ResetLeavesAnyMemory := by
  unfold Obligations.ResetLeavesAnyMemory
  intro s v w o i h x hv hw ho hi hh hx
  exact ⟨Memory.ofCells_self _ v hv, Memory.ofCells_self _ w hw, Memory.ofCells_self _ o ho, Memory.ofCells_self _ i hi,
    Memory.ofCells_self _ h hh, Memory.ofCells_self _ x hx⟩

/-! ### Bus writes in order (R53, R68) -/

/-- The second bus is the first after one write at each of the addresses, in order. -/
inductive Stored : List Word → Bus → Bus → Prop where
  | none (u : Bus) : Stored [] u u
  | store (a : Word) (v : Byte) {as : List Word} {u w : Bus} (h : Stored as (u.write a v) w) : Stored (a :: as) u w

theorem Stored.append {as bs : List Word} {u v w : Bus} (h : Stored as u v) (h' : Stored bs v w) :
    Stored (as ++ bs) u w := by
  induction h with
  | none => exact h'
  | store a x _ ih => exact .store a x (ih h')

theorem Stored.cart {as : List Word} {u w : Bus} (h : Stored as u w) : w.cart = u.cart := by
  induction h with
  | none => rfl
  | store a v _ ih => rw [ih, write_cart]

theorem Stored.ok {as : List Word} {u w : Bus} (h : Stored as u w) (hu : u.ok) : w.ok := by
  induction h with
  | none => exact hu
  | store a v _ ih => exact ih (write_ok _ a v hu)

/-- Without a control write the bank controller keeps its registers (R56). -/
theorem Stored.mbc {as : List Word} {u w : Bus} (h : Stored as u w) (hc : ∀ a ∈ as, ¬ isControl a) : w.mbc = u.mbc := by
  induction h with
  | none => rfl
  | store a v _ ih =>
    obtain ⟨ha, has⟩ := List.forall_mem_cons.1 hc
    rw [ih has, write_mbc _ _ _ ha]

/-- A byte that no single write touches reads as before after all of them. -/
theorem Stored.read {P : Word → Prop} {b : Word}
    (keeps : ∀ (u : Bus) (a : Word) (v : Byte), u.ok → P a → (u.write a v).read b = u.read b)
    {as : List Word} {u w : Bus} (h : Stored as u w) (hu : u.ok) (hP : ∀ a ∈ as, P a) : w.read b = u.read b := by
  induction h with
  | none => rfl
  | store a v _ ih =>
    obtain ⟨ha, has⟩ := List.forall_mem_cons.1 hP
    rw [ih (write_ok _ a v hu) has, keeps _ a v hu ha]

/-- A control write changes the bank controller and nothing else (R56). -/
theorem write_control (u : Bus) (a : Word) (v : Byte) (h : isControl a) :
    u.write a v = { u with mbc := u.mbcControlWrite a v } := by
  by_cases hlow : a.toNat ≤ 0x3FFF
  · exact write_romFixed u a v (regionOf_eq a .romFixed (Nat.zero_le _) hlow)
  · exact write_romSwitch u a v (regionOf_eq a .romSwitch (Nat.lt_of_not_le hlow) h)

/-- The bank controller's registers matter only to reads of the two cartridge windows (R52). -/
theorem read_setMbc (u : Bus) (m : Mbc) (b : Word) (hrom : regionOf b ≠ .romSwitch) (hram : regionOf b ≠ .xram) :
    ({ u with mbc := m } : Bus).read b = u.read b := by
  unfold Bus.read
  split
  case h_2 h => exact absurd h hrom
  case h_4 h => exact absurd h hram
  all_goals rfl

/-- A write at any address leaves every byte it does not name, the cartridge windows apart (R53, R56). -/
theorem read_write_outside_windows (u : Bus) (a b : Word) (v : Byte) (hu : u.ok)
    (hrom : b.toNat < 0x4000 ∨ 0x7FFF < b.toNat) (hram : b.toNat < 0xA000 ∨ 0xBFFF < b.toNat)
    (h : isControl a ∨ ¬ sameByte a b) : (u.write a v).read b = u.read b := by
  by_cases hc : isControl a
  · have hb := regionOf_bounds b
    rw [write_control u a v hc]
    apply read_setMbc <;> intro hr <;> rw [hr] at hb <;> simp only [Region.first, Region.last] at hb <;> omega
  · exact read_write_other u a b v hu hc (h.resolve_left hc)

/-! ### What a change of the state may touch (R34) -/

/-- From `s` to `t` no piece but those of `ws` changes, PC only if `jump`, the bus by writes at `as` in order; the low
nibble of F stays 0, and the baseline and what is still to come from outside stay. -/
structure Effect (ws : List Piece) (jump : Bool) (as : List Word) (s t : State) : Prop where
  piece : ∀ p : Piece, p ∉ ws → p.same s t
  pc : jump = false → t.pc = s.pc
  bus : Stored as s.bus t.bus
  lowNibble : s.f &&& 0x0F = 0 → t.f &&& 0x0F = 0
  baseline : t.baseline = s.baseline
  inputs : t.inputs = s.inputs

theorem Piece.same_refl (p : Piece) (s : State) : p.same s s := by
  cases p <;> rfl

theorem Piece.same_trans {p : Piece} {s u t : State} (h : p.same s u) (h' : p.same u t) : p.same s t := by
  cases p <;> exact Eq.trans h' h

theorem Effect.refl (ws : List Piece) (jump : Bool) (s : State) : Effect ws jump [] s s :=
  ⟨fun p _ => p.same_refl s, fun _ => rfl, .none _, id, rfl, rfl⟩

theorem Effect.trans {ws ws' : List Piece} {j j' : Bool} {as as' : List Word} {s u t : State} (e : Effect ws j as s u)
    (e' : Effect ws' j' as' u t) : Effect (ws ++ ws') (j || j') (as ++ as') s t where
  piece p hp := by
    rw [List.mem_append, not_or] at hp
    exact Piece.same_trans (e.piece p hp.1) (e'.piece p hp.2)
  pc hj := by
    rw [Bool.or_eq_false_iff] at hj
    rw [e'.pc hj.2, e.pc hj.1]
  bus := e.bus.append e'.bus
  lowNibble h := e'.lowNibble (e.lowNibble h)
  baseline := e'.baseline.trans e.baseline
  inputs := e'.inputs.trans e.inputs

/-! ### The effect of each update of `Ops` and `Operands` -/

theorem setReg_effect (s : State) (r : Reg8) (v : Byte) : Effect [.reg r] false [] s (s.setReg r v) where
  piece p hp := by
    cases p with
    | reg q =>
      have hq : q ≠ r := fun e => hp (e ▸ List.mem_singleton_self _)
      exact (reg_setReg s r q v).trans (if_neg hq)
    | _ => cases r <;> rfl
  pc _ := setReg_pc s r v
  bus := setReg_bus s r v ▸ .none _
  lowNibble h := (setReg_f s r v).symm ▸ h
  baseline := setReg_baseline s r v
  inputs := setReg_inputs s r v

/-- A change of SP and the engine bits: each of them is one it may write or keeps its value. -/
theorem setEngine_effect {ws : List Piece} (s : State) (sp : Word) (ime : Bool) (mode : Mode) (pend bug : Bool)
    (hsp : .sp ∈ ws ∨ sp = s.sp := by simp) (hime : .ime ∈ ws ∨ ime = s.ime := by simp)
    (hmode : .mode ∈ ws ∨ mode = s.mode := by simp) (hpend : .imePending ∈ ws ∨ pend = s.imePending := by simp)
    (hbug : .haltBug ∈ ws ∨ bug = s.haltBug := by simp) :
    Effect ws false [] s { s with sp := sp, ime := ime, mode := mode, imePending := pend, haltBug := bug } where
  piece p hp := by
    cases p with
    | sp => exact hsp.resolve_left hp
    | ime => exact hime.resolve_left hp
    | mode => exact hmode.resolve_left hp
    | imePending => exact hpend.resolve_left hp
    | haltBug => exact hbug.resolve_left hp
    | _ => rfl
  pc _ := rfl
  bus := .none _
  lowNibble := id
  baseline := rfl
  inputs := rfl

theorem setSp_effect (s : State) (v : Word) : Effect [.sp] false [] s { s with sp := v } :=
  setEngine_effect s v s.ime s.mode s.imePending s.haltBug

theorem setMode_effect (s : State) (m : Mode) : Effect [.mode] false [] s { s with mode := m } :=
  setEngine_effect s s.sp s.ime m s.imePending s.haltBug

theorem setHl_effect (s : State) (v : Word) : Effect [.reg .h, .reg .l] false [] s (s.setHl v) :=
  (setReg_effect s .h v.hiByte).trans (setReg_effect _ .l v.loByte)

theorem setPair_effect (s : State) (rr : Pair) (v : Word) : Effect rr.pieces false [] s (s.setPair rr v) := by
  cases rr with
  | bc => exact (setReg_effect s .b v.hiByte).trans (setReg_effect _ .c v.loByte)
  | de => exact (setReg_effect s .d v.hiByte).trans (setReg_effect _ .e v.loByte)
  | hl => exact setHl_effect s v
  | sp => exact setSp_effect s v

theorem setF_effect (s : State) (v : Byte) : Effect [.flagZ, .flagN, .flagH, .flagC] false [] s (s.setF v) where
  piece p hp := by
    cases p with
    | flagZ | flagN | flagH | flagC => simp at hp
    | _ => rfl
  pc _ := rfl
  bus := .none _
  lowNibble _ := masked_low_nibble v
  baseline := rfl
  inputs := rfl

theorem setStackPair_effect (s : State) (qq : StackPair) (v : Word) :
    Effect qq.pieces false [] s (s.setStackPair qq v) := by
  cases qq with
  | bc => exact setPair_effect s .bc v
  | de => exact setPair_effect s .de v
  | hl => exact setPair_effect s .hl v
  | af => exact (setReg_effect s .a v.hiByte).trans (setF_effect _ v.loByte)

theorem setPc_effect (s : State) (v : Word) : Effect [] true [] s (s.setPc v) :=
  ⟨fun p _ => by cases p <;> rfl, nofun, .none _, id, rfl, rfl⟩

theorem busWrite_effect (s : State) (a : Word) (v : Byte) : Effect [] false [a] s (s.busWrite a v) :=
  ⟨fun p _ => by cases p <;> rfl, fun _ => rfl, .store a v (.none _), id, rfl, rfl⟩

theorem write8_effect (s : State) (o : Opnd) (v : Byte) : Effect o.piece false (o.stores s) s (s.write8 o v) := by
  cases o with
  | reg r => exact setReg_effect s r v
  | indHl => exact busWrite_effect s s.hl v

theorem indirectUpdate_effect (s : State) (m : Indirect) : Effect m.pieces false [] s (s.indirectUpdate m) := by
  cases m with
  | bc | de => exact .refl _ _ s
  | hlInc | hlDec => exact setHl_effect s _

theorem push16_effect (s : State) (v : Word) : Effect [.sp] false s.pushAddrs s (s.push16 v) := by
  rw [push16_eq]
  exact ((busWrite_effect s (s.sp - 1) v.hiByte).trans (busWrite_effect _ (s.sp - 2) v.loByte)).trans (setSp_effect _ _)

theorem pop16_effect (s : State) : Effect [.sp] false [] s s.pop16.2 := by
  rw [pop16_eq]
  exact setSp_effect s _

theorem ret_effect (s : State) : Effect [.sp] true [] s s.ret :=
  (pop16_effect s).trans (setPc_effect _ _)

theorem call_effect (target : Word) (s : State) : Effect [.sp] true s.pushAddrs s (call target s) :=
  (push16_effect s s.pc).trans (setPc_effect _ target)

/-- A flag line on top of a change: each flag is one it may write or keeps its value. -/
theorem Effect.setFlags {ws fs : List Piece} {j : Bool} {as : List Word} {s u : State} {z n h c : Bool}
    (e : Effect ws j as s u) (hz : .flagZ ∈ fs ∨ z = u.flagZ := by simp) (hn : .flagN ∈ fs ∨ n = u.flagN := by simp)
    (hh : .flagH ∈ fs ∨ h = u.flagH := by simp) (hc : .flagC ∈ fs ∨ c = u.flagC := by simp) :
    Effect (ws ++ fs) j as s (u.setFlags z n h c) where
  piece p hp := by
    rw [List.mem_append, not_or] at hp
    refine Piece.same_trans (e.piece p hp.1) ?_
    cases p with
    | flagZ => exact (setFlags_flagZ u z n h c).trans (hz.resolve_left hp.2)
    | flagN => exact (setFlags_flagN u z n h c).trans (hn.resolve_left hp.2)
    | flagH => exact (setFlags_flagH u z n h c).trans (hh.resolve_left hp.2)
    | flagC => exact (setFlags_flagC u z n h c).trans (hc.resolve_left hp.2)
    | _ => rfl
  pc := e.pc
  bus := e.bus
  lowNibble _ := masked_low_nibble _
  baseline := e.baseline
  inputs := e.inputs

/-! ### The effect of the shared meanings -/

@[simp] theorem write8_flagC (s : State) (o : Opnd) (v : Byte) : (s.write8 o v).flagC = s.flagC := by
  rw [State.flagC, write8_f, State.flagC]

theorem incOperand_effect (o : Opnd) (s : State) :
    Effect (o.piece ++ [.flagZ, .flagN, .flagH]) false (o.stores s) s (incOperand o s) :=
  (write8_effect s o _).setFlags

theorem decOperand_effect (o : Opnd) (s : State) :
    Effect (o.piece ++ [.flagZ, .flagN, .flagH]) false (o.stores s) s (decOperand o s) :=
  (write8_effect s o _).setFlags

theorem rotOperand_effect (op : RotOp) (o : Opnd) (s : State) :
    Effect (o.piece ++ [.flagZ, .flagN, .flagH, .flagC]) false (o.stores s) s (rotOperand op o s) :=
  (write8_effect s o _).setFlags

theorem rotAcc_effect (op : RotOp) (s : State) :
    Effect [.reg .a, .flagZ, .flagN, .flagH, .flagC] false [] s (rotAcc op s) :=
  (setReg_effect s .a _).setFlags

theorem aluByte_effect (op : AluOp) (v : Byte) (s : State) :
    Effect ((if op = .cp then [] else [.reg .a]) ++ [.flagZ, .flagN, .flagH, .flagC]) false [] s (aluByte op v s) := by
  refine Effect.setFlags ?_
  split
  · exact .refl _ _ s
  · exact setReg_effect s .a _

theorem addHlPair_effect (rr : Pair) (s : State) :
    Effect [.reg .h, .reg .l, .flagN, .flagH, .flagC] false [] s (addHlPair rr s) :=
  (setHl_effect s _).setFlags (hz := .inr rfl)

theorem decimalAdjust_effect (s : State) : Effect [.reg .a, .flagZ, .flagH, .flagC] false [] s (decimalAdjust s) :=
  (setReg_effect s .a _).setFlags (hn := .inr rfl)

theorem complementA_effect (s : State) : Effect [.reg .a, .flagN, .flagH] false [] s (complementA s) :=
  (setReg_effect s .a _).setFlags (hz := .inr rfl) (hc := .inr rfl)

theorem halt_effect (s : State) : Effect [.mode, .haltBug] false [] s (halt s) := by
  rw [halt_eq]
  exact setEngine_effect s s.sp s.ime _ s.imePending _

theorem disableInterrupts_effect (s : State) : Effect [.ime, .imePending] false [] s (disableInterrupts s) :=
  setEngine_effect s s.sp false s.mode false s.haltBug

theorem enableInterrupts_effect (s : State) : Effect [.imePending] false [] s (enableInterrupts s) :=
  setEngine_effect s s.sp s.ime s.mode true s.haltBug

theorem retInterrupt_effect (s : State) : Effect [.sp, .ime, .imePending] true [] s s.retInterrupt :=
  (ret_effect s).trans (setEngine_effect s.ret s.ret.sp true s.ret.mode false s.ret.haltBug (ws := [.ime, .imePending]))

/-! ### The effect of every instruction -/

/-- The count the step returns is no part of an effect (R340). -/
theorem Effect.done {ws : List Piece} {j : Bool} {as : List Word} {s u t : State} {n : Nat} (e : Effect ws j as s u)
    (h : Machine.done n u = .next t) : Effect ws j as s t := by
  obtain rfl := done_inj n u t h
  exact ⟨fun p hp => Piece.same_trans (e.piece p hp) (by cases p <;> rfl), e.pc, e.bus, e.lowNibble, e.baseline, e.inputs⟩

theorem Effect.branch {ws : List Piece} {j : Bool} {as : List Word} {s t : State} {cc : Cond} {m n : Nat}
    {act : State → State} (h : Machine.branch cc m n act s = .next t)
    (taken : s.cond cc = true → Effect ws j as s (act s)) (notTaken : s.cond cc = false → Effect ws j as s s) :
    Effect ws j as s t := by
  unfold Machine.branch at h
  cases hc : s.cond cc with
  | true => exact (taken hc).done (by simpa [hc] using h)
  | false => exact (notTaken hc).done (by simpa [hc] using h)

/-- What an instruction's pattern line can do: it writes the pieces of its line of `Form.writes`, PC only if it is a control
transfer, and stores at the addresses of `Form.stores` (R34, R68). -/
theorem run_effect (f : Form) (s t : State) (hf : f ≠ .prefixCb) (h : f.run s = .next t) :
    Effect f.writes f.jumps (f.stores s) s t := by
  cases f with
  | nop => exact (Effect.refl _ _ s).done h
  | ldNnSp nn => exact ((busWrite_effect s nn _).trans (busWrite_effect _ (nn + 1) _)).done h
  | stop n => exact (setMode_effect s .stopped).done h
  | jr e => exact (setPc_effect s _).done h
  | jrCc cc e => exact .branch h (fun _ => setPc_effect s _) (fun _ => .refl _ _ s)
  | ldPairNn rr nn => exact (setPair_effect s rr nn).done h
  | addHl rr => exact (addHlPair_effect rr s).done h
  | ldIndA m => exact ((busWrite_effect s (s.indirectAddr m) s.a).trans (indirectUpdate_effect _ m)).done h
  | ldAInd m => exact ((setReg_effect s .a _).trans (indirectUpdate_effect _ m)).done h
  | incPair rr => exact (setPair_effect s rr _).done h
  | decPair rr => exact (setPair_effect s rr _).done h
  | inc o => cases o <;> exact (incOperand_effect _ s).done h
  | dec o => cases o <;> exact (decOperand_effect _ s).done h
  | ldRN r n => exact (setReg_effect s r n).done h
  | ldIndN n => exact (busWrite_effect s s.hl n).done h
  | rlca => exact (rotAcc_effect .rlc s).done h
  | rrca => exact (rotAcc_effect .rrc s).done h
  | rla => exact (rotAcc_effect .rl s).done h
  | rra => exact (rotAcc_effect .rr s).done h
  | daa => exact (decimalAdjust_effect s).done h
  | cpl => exact (complementA_effect s).done h
  | scf => exact ((Effect.refl [] _ s).setFlags (hz := .inr rfl)).done h
  | ccf => exact ((Effect.refl [] _ s).setFlags (hz := .inr rfl)).done h
  | ldRR r r' => exact (setReg_effect s r _).done h
  | ldRInd r => exact (setReg_effect s r _).done h
  | ldIndR r => exact (busWrite_effect s s.hl _).done h
  | halt => exact (halt_effect s).done h
  | alu op o => cases o <;> exact (aluByte_effect op _ s).done h
  | aluN op n => exact (aluByte_effect op n s).done h
  | retCc cc => exact .branch h (fun _ => ret_effect s) (fun _ => .refl _ _ s)
  | ldhNA n => exact (busWrite_effect s n.highPage s.a).done h
  | ldhAN n => exact (setReg_effect s .a _).done h
  | addSpE e => exact (Effect.setFlags (setSp_effect s _)).done h
  | ldHlSpE e => exact (Effect.setFlags (setHl_effect s _)).done h
  | pop qq => exact ((pop16_effect s).trans (setStackPair_effect _ qq _)).done h
  | push qq => exact (push16_effect s _).done h
  | ret => exact (ret_effect s).done h
  | reti => exact (retInterrupt_effect s).done h
  | jpHl => exact (setPc_effect s _).done h
  | ldSpHl => exact (setSp_effect s _).done h
  | jpCc cc nn => exact .branch (act := (State.setPc · nn)) h (fun _ => setPc_effect s nn) (fun _ => .refl _ _ s)
  | ldhCA => exact (busWrite_effect s s.c.highPage s.a).done h
  | ldhAC => exact (setReg_effect s .a _).done h
  | ldNnA nn => exact (busWrite_effect s nn s.a).done h
  | ldANn nn => exact (setReg_effect s .a _).done h
  | jpNn nn => exact (setPc_effect s nn).done h
  | prefixCb => exact absurd rfl hf
  | di => exact (disableInterrupts_effect s).done h
  | ei => exact (enableInterrupts_effect s).done h
  | callCc cc nn =>
    refine .branch h (fun hc => ?_) (fun hc => ?_) <;> simp only [Form.stores, hc]
    · exact call_effect nn s
    · exact .refl _ _ s
  | callNn nn => exact (call_effect nn s).done h
  | rst i => exact (call_effect i.rstTarget s).done h
  | illegal x => exact (setMode_effect s .locked).done h
  | rot op o => exact (rotOperand_effect op o s).done h
  | bit b o => exact ((Effect.refl [] _ s).setFlags (hc := .inr rfl)).done h
  | res b o => exact (write8_effect s o _).done h
  | set b o => exact (write8_effect s o _).done h

/-- Only the row PREFIX_CB has its pattern line, and it is not well-formed (R276). -/
theorem form_ne_prefixCb (i : Instr) (hi : i.wellFormed = true) : i.form ≠ .prefixCb := by
  intro hf
  have e : i = .prefixCb := by rw [← form_toInstr i, hf]; rfl
  rw [e] at hi
  exact absurd hi (by decide)

theorem exec_effect (i : Instr) (s t : State) (hi : i.wellFormed = true) (h : exec i s = .next t) :
    Effect i.form.writes i.form.jumps (i.form.stores s) s t :=
  run_effect i.form s t (form_ne_prefixCb i hi) (exec_eq_run i s ▸ h)

/-- Settles O36: the register part of `exec_effect`. -/
theorem registerFrame : Obligations.RegisterFrame := by
  unfold Obligations.RegisterFrame
  intro i s t hi h
  have e := exec_effect i s t hi h
  exact ⟨e.piece, e.pc, e.bus.cart, e.baseline, e.inputs⟩

/-- Settles O38: what an instruction does to the bus is the writes of `exec_effect`, each of which leaves the byte. -/
theorem memoryFrame : Obligations.MemoryFrame := by
  unfold Obligations.MemoryFrame
  rintro i s t hi ⟨-, hs, -⟩ h
  have hbus := (exec_effect i s t hi h).bus
  refine ⟨fun hc => ⟨hbus.mbc hc, fun b hb => ?_⟩, fun b hrom hram hb => ?_⟩
  · exact hbus.read (P := fun a => ¬ isControl a ∧ ¬ sameByte a b)
      (fun u a v hu ha => read_write_other u a b v hu ha.1 ha.2) hs fun a ha => ⟨hc a ha, hb a ha⟩
  · exact hbus.read (fun u a v hu hab => read_write_outside_windows u a b v hu hrom hram hab) hs hb

/-! ### What a step can do (R290) -/

/-- An opcode fetch moves PC, or clears the halt bug (R291). -/
theorem fetchOpcode_eq (s : State) : ∃ pc : Word, s.fetchOpcode.2 = { s with pc := pc, haltBug := false } := by
  cases hb : s.haltBug with
  | false => exact ⟨s.pc + 1, by simp [State.fetchOpcode, ← hb]⟩
  | true => exact ⟨s.pc, by simp [State.fetchOpcode, hb]⟩

/-- Fetching an instruction changes PC and leaves the halt bug clear, and nothing else (R291). -/
theorem fetchInstr_eq (s : State) : ∃ pc : Word, s.fetchInstr.2 = { s with pc := pc, haltBug := false } := by
  obtain ⟨pc, hpc⟩ := fetchOpcode_eq s
  unfold State.fetchInstr
  cases hslot : primarySlot s.fetchOpcode.1 <;> simp only [hslot, hpc] <;> exact ⟨_, rfl⟩

/-- What is fetched is an instruction, never the row PREFIX_CB (R276). -/
theorem fetchInstr_wellFormed (s : State) : s.fetchInstr.1.wellFormed = true := by
  have hspec := primarySlot_spec s.fetchOpcode.1
  unfold State.fetchInstr
  cases hslot : primarySlot s.fetchOpcode.1 with
  | op i =>
    simp only [hslot] at hspec ⊢
    exact hspec.1
  | opN f =>
    simp only [hslot] at hspec ⊢
    exact (hspec _).1
  | opNN f =>
    simp only [hslot] at hspec ⊢
    exact (hspec _).1
  | cb =>
    simp only [hslot]
    exact (extendedInstr_spec _).1

/-- `t` is what a well-formed instruction leaves, run from `s` with PC somewhere and the halt bug clear, after the delayed
enable (R291, R292). -/
def InstrStep (s t : State) : Prop :=
  ∃ (i : Instr) (pc : Word) (u : State), i.wellFormed = true ∧
    exec i { s with pc := pc, haltBug := false } = .next u ∧ t = u.finishEnable s.imePending

theorem runInstr_cases (s t : State) (h : s.runInstr = .next t) : InstrStep s t := by
  obtain ⟨pc, hpc⟩ := fetchInstr_eq s
  simp only [State.runInstr, hpc] at h
  cases hu : exec s.fetchInstr.1 { s with pc := pc, haltBug := false } with
  | next u =>
    rw [hu] at h
    exact ⟨_, pc, u, fetchInstr_wellFormed s, hu, (Host.Outcome.next.inj h).symm⟩
  | fault r => rw [hu] at h; cases h
  | refused r => rw [hu] at h; cases h

/-- A dispatch, or an instruction (R290). -/
theorem serve_cases (s t : State) (h : s.serve = .next t) :
    (∃ (i : Source) (n : Nat), t = (s.dispatch i).setCycles n) ∨ InstrStep s t := by
  unfold State.serve at h
  split at h
  · exact .inl ⟨_, _, done_inj _ _ _ h⟩
  · exact .inr (runInstr_cases s t h)

/-- A tick that changes only the count; or, in Running mode now, a dispatch or an instruction (R290, R293 to R295). -/
theorem engineStep_cases (s t : State) (wake : Bool) (h : s.engineStep wake = .next t) :
    (∃ n : Nat, t = s.setCycles n) ∨
    (∃ (i : Source) (n : Nat), t = (({ s with mode := .running } : State).dispatch i).setCycles n) ∨
    InstrStep { s with mode := .running } t := by
  unfold State.engineStep at h
  split at h
  · exact .inl ⟨_, done_inj _ _ _ h⟩
  · split at h
    · exact .inr (serve_cases _ t h)
    · exact .inl ⟨_, done_inj _ _ _ h⟩
  · split at h
    · exact .inl ⟨_, done_inj _ _ _ h⟩
    · exact .inr (serve_cases _ t h)
  next hm =>
    rw [← hm]
    exact .inr (serve_cases s t h)

/-! ### What every step keeps (R22, R30, R31, R33, R271) -/

/-- A property that every move keeps is kept by taking the input (R6). -/
theorem takeInput_induction {P : State → Prop}
    (hin : ∀ (s : State) (rest : List StepInput), P s → P { s with inputs := rest })
    (hmove : ∀ (s : State) (m : EnvMove), P s → P (s.applyMove m)) (s : State) (hs : P s) : P s.takeInput.2 := by
  have hmoves : ∀ (ms : List EnvMove) (s : State), P s → P (s.applyMoves ms) := by
    intro ms
    induction ms with
    | nil => exact fun _ h => h
    | cons m ms ih => exact fun s h => ih _ (hmove s m h)
  unfold State.takeInput
  split
  · exact hs
  · exact hmoves _ _ (hin s _ hs)

theorem applyMove_inv (s : State) (m : EnvMove) (h : s.Inv) : (s.applyMove m).Inv := by
  obtain ⟨hf, hbus, hbug⟩ := h
  cases m with
  | reset init =>
    obtain ⟨-, -, -, -, -, -, -, hcart⟩ := hbus
    exact applyReset_inv s init hcart
  | _ => exact ⟨hf, write_ok _ _ _ hbus, hbug⟩

theorem takeInput_inv (s : State) (h : s.Inv) : s.takeInput.2.Inv :=
  takeInput_induction (fun _ _ h => h) applyMove_inv s h

theorem haltBug_notMem_piece (o : Opnd) : Piece.haltBug ∉ o.piece := by
  cases o <;> simp [Opnd.piece]

theorem haltBug_notMem_pair (rr : Pair) : Piece.haltBug ∉ rr.pieces := by
  cases rr <;> simp [Pair.pieces]

theorem haltBug_notMem_stackPair (qq : StackPair) : Piece.haltBug ∉ qq.pieces := by
  cases qq <;> simp [StackPair.pieces]

theorem haltBug_notMem_indirect (m : Indirect) : Piece.haltBug ∉ m.pieces := by
  cases m <;> simp [Indirect.pieces]

/-- Only HALT's line of the table names the halt bug (R34, R271). -/
theorem haltBug_notMem_writes (f : Form) (hf : f ≠ .halt) : Piece.haltBug ∉ f.writes := by
  cases f with
  | halt => exact absurd rfl hf
  | alu op o | aluN op n => cases op <;> simp [Form.writes]
  | _ => simp [Form.writes, haltBug_notMem_piece, haltBug_notMem_pair, haltBug_notMem_stackPair, haltBug_notMem_indirect]

/-- HALT arms the halt bug only where it leaves the mode alone (R271). -/
theorem halt_mode_of_haltBug (s : State) (hb : s.haltBug = false) (h : (halt s).haltBug = true) :
    (halt s).mode = s.mode := by
  unfold halt at h ⊢
  split at h
  next hc => rw [if_pos hc]
  next => exact absurd (hb.symm.trans h) nofun

/-- An instruction that starts Running with the halt bug clear leaves it armed only while Running (R271). -/
theorem exec_mode_of_haltBug (i : Instr) (s t : State) (hi : i.wellFormed = true) (h : exec i s = .next t)
    (hm : s.mode = .running) (hb : s.haltBug = false) (ht : t.haltBug = true) : t.mode = .running := by
  by_cases hf : i.form = .halt
  · rw [exec_eq_run, hf] at h
    obtain rfl := done_inj 4 (halt s) t h
    exact (halt_mode_of_haltBug s hb ht).trans hm
  · have hsame : t.haltBug = s.haltBug := (exec_effect i s t hi h).piece .haltBug (haltBug_notMem_writes _ hf)
    exact absurd (ht.symm.trans (hsame.trans hb)) nofun

theorem finishEnable_inv (s : State) (arm : Bool) (h : s.Inv) : (s.finishEnable arm).Inv := by
  unfold State.finishEnable
  split <;> exact h

theorem InstrStep.inv {s t : State} (h : InstrStep s t) (hm : s.mode = .running) (hs : s.Inv) : t.Inv := by
  obtain ⟨i, pc, u, hi, hu, rfl⟩ := h
  obtain ⟨hf, hbus, -⟩ := hs
  have e := exec_effect i _ u hi hu
  exact finishEnable_inv u _ ⟨e.lowNibble hf, e.bus.ok hbus, exec_mode_of_haltBug i _ u hi hu hm rfl⟩

theorem dispatch_inv (s : State) (i : Source) (h : s.Inv) : (s.dispatch i).Inv := by
  obtain ⟨hf, hbus, -⟩ := h
  exact ⟨(dispatch_f s i).symm ▸ hf, dispatch_ok s i hbus, fun hb => by simp [dispatch_eq] at hb⟩

theorem engineStep_inv (s t : State) (wake : Bool) (hs : s.Inv) (h : s.engineStep wake = .next t) : t.Inv := by
  have ⟨hf, hbus, _⟩ := hs
  have hrun : ({ s with mode := .running } : State).Inv := ⟨hf, hbus, fun _ => rfl⟩
  rcases engineStep_cases s t wake h with ⟨n, rfl⟩ | ⟨i, n, rfl⟩ | hi
  · exact hs
  · exact dispatch_inv _ i hrun
  · exact hi.inv rfl hrun

/-- Settles O15: taking the input keeps the invariant, and so does each thing an engine step can be: a tick, a dispatch, an
instruction. -/
theorem stepKeepsInvariant : Obligations.StepKeepsInvariant := by
  unfold Obligations.StepKeepsInvariant
  exact fun s t hs h => engineStep_inv _ t _ (takeInput_inv s hs) h

/-- What neither a step nor a reset changes is the same in both states (R33, R35). -/
def SameCartridge (s t : State) : Prop := t.bus.cart = s.bus.cart ∧ t.baseline = s.baseline

theorem SameCartridge.trans {s u t : State} (h : SameCartridge s u) (h' : SameCartridge u t) : SameCartridge s t :=
  ⟨h'.1.trans h.1, h'.2.trans h.2⟩

theorem applyMove_sameCartridge (s : State) (m : EnvMove) : SameCartridge s (s.applyMove m) := by
  cases m with
  | reset init => exact ⟨rfl, rfl⟩
  | _ => exact ⟨write_cart _ _ _, rfl⟩

theorem takeInput_sameCartridge (s : State) : SameCartridge s s.takeInput.2 :=
  takeInput_induction (P := SameCartridge s) (fun _ _ h => h) (fun u m h => h.trans (applyMove_sameCartridge u m)) s
    ⟨rfl, rfl⟩

theorem dispatch_sameCartridge (s : State) (i : Source) : SameCartridge s (s.dispatch i) := by
  simp [SameCartridge, dispatch_eq]

theorem finishEnable_sameCartridge (s : State) (arm : Bool) : SameCartridge s (s.finishEnable arm) := by
  unfold State.finishEnable
  split <;> exact ⟨rfl, rfl⟩

theorem InstrStep.sameCartridge {s t : State} (h : InstrStep s t) : SameCartridge s t := by
  obtain ⟨i, pc, u, hi, hu, rfl⟩ := h
  have e := exec_effect i _ u hi hu
  exact SameCartridge.trans ⟨e.bus.cart, e.baseline⟩ (finishEnable_sameCartridge u _)

theorem engineStep_sameCartridge (s t : State) (wake : Bool) (h : s.engineStep wake = .next t) : SameCartridge s t := by
  rcases engineStep_cases s t wake h with ⟨n, rfl⟩ | ⟨i, n, rfl⟩ | hi
  · exact ⟨rfl, rfl⟩
  · exact dispatch_sameCartridge { s with mode := .running } i
  · exact hi.sameCartridge

/-- Settles O17: moves, ticks and dispatches leave the cartridge and the baseline, and `exec_effect` says so of every
instruction. -/
theorem stepKeepsCartridge : Obligations.StepKeepsCartridge := by
  unfold Obligations.StepKeepsCartridge
  exact fun s t h => (takeInput_sameCartridge s).trans (engineStep_sameCartridge _ t _ h)

end Sys2Proof.Machine
end

section
/-! PROOFS. The family 20_memory: what the bus reads and writes region by region (R52 to R64, R76, R80), what one store
keeps (R59, R69, R84), the bank controllers (R72 to R82), words in memory (R65, R66), and the stores of an instruction
(R56, R68). -/

namespace Sys2Proof.Machine

/-! ### The stores of an instruction (R68) -/

/-- What a run of bus writes leaves is what one byte at each of the addresses, in order, leaves. -/
theorem Stored.exists_bytes {as : List Word} {u w : Bus} (h : Stored as u w) :
    ∃ vs : List Byte, vs.length = as.length ∧ w = (as.zip vs).foldl (fun u x => u.write x.1 x.2) u := by
  induction h with
  | none => exact ⟨[], rfl, rfl⟩
  | store a v _ ih =>
    obtain ⟨vs, hlen, hw⟩ := ih
    exact ⟨v :: vs, congrArg (· + 1) hlen, hw⟩

/-- Settles O37: the bus part of `exec_effect`, with its bytes listed. -/
theorem memoryChangesOnlyByStores : Obligations.MemoryChangesOnlyByStores := by
  unfold Obligations.MemoryChangesOnlyByStores
  exact fun i s t hi h => (exec_effect i s t hi h).bus.exists_bytes

/-! ### Every address, by region (R52, R53) -/

theorem busWrite_of_write (s : State) (a : Word) (v : Byte) (u : Bus) (h : s.bus.write a v = u) :
    s.busWrite a v = { s with bus := u } := by
  rw [State.busWrite, h]

/-- Settles O24: each branch is one region, and the law of that region says what is read there. -/
theorem readByRegion : Obligations.ReadByRegion := by
  unfold Obligations.ReadByRegion
  intro s a
  simp only [← ramOk_iff, busRead_eq]
  split_ifs with h1 h2 h3 h4 hram h5 h6 h7 h8 h9 h10
  · exact read_romFixed _ _ (regionOf_eq a .romFixed (Nat.zero_le _) h1)
  · exact read_romSwitch _ _ (regionOf_eq a .romSwitch (Nat.lt_of_not_le h1) h2)
  · exact read_vram _ _ (regionOf_eq a .vram (Nat.lt_of_not_le h2) h3)
  · exact (read_xram _ _ (regionOf_eq a .xram (Nat.lt_of_not_le h3) h4)).trans (if_pos hram)
  · exact (read_xram _ _ (regionOf_eq a .xram (Nat.lt_of_not_le h3) h4)).trans (if_neg hram)
  · exact read_wram _ _ (regionOf_eq a .wram (Nat.lt_of_not_le h4) h5)
  · exact read_echo _ _ (regionOf_eq a .echo (Nat.lt_of_not_le h5) h6)
  · exact read_oam _ _ (regionOf_eq a .oam (Nat.lt_of_not_le h6) h7)
  · exact read_unusable _ _ (regionOf_eq a .unusable (Nat.lt_of_not_le h7) h8)
  · exact read_io _ _ (regionOf_eq a .io (Nat.lt_of_not_le h8) h9)
  · exact read_hram _ _ (regionOf_eq a .hram (Nat.lt_of_not_le h9) h10)
  · exact read_ie _ _ (regionOf_eq a .ie (Nat.lt_of_not_le h10) (Nat.le_of_lt_succ a.isLt))

/-- Settles O25: each branch is one region, and the law of that region says what is written there. -/
theorem writeByRegion : Obligations.WriteByRegion := by
  unfold Obligations.WriteByRegion
  intro s a v
  simp only [← ramOk_iff]
  split_ifs with h2 h3 h4 hram h5 h6 h7 h8 h9 h10 <;> apply busWrite_of_write
  · exact write_control _ _ v h2
  · exact write_vram _ _ v (regionOf_eq a .vram (Nat.lt_of_not_le h2) h3)
  · exact (write_xram _ _ v (regionOf_eq a .xram (Nat.lt_of_not_le h3) h4)).trans (if_pos hram)
  · exact (write_xram _ _ v (regionOf_eq a .xram (Nat.lt_of_not_le h3) h4)).trans (if_neg hram)
  · exact write_wram _ _ v (regionOf_eq a .wram (Nat.lt_of_not_le h4) h5)
  · exact write_echo _ _ v (regionOf_eq a .echo (Nat.lt_of_not_le h5) h6)
  · exact write_oam _ _ v (regionOf_eq a .oam (Nat.lt_of_not_le h6) h7)
  · exact write_unusable _ _ v (regionOf_eq a .unusable (Nat.lt_of_not_le h7) h8)
  · exact write_io _ _ v (regionOf_eq a .io (Nat.lt_of_not_le h8) h9)
  · exact write_hram _ _ v (regionOf_eq a .hram (Nat.lt_of_not_le h9) h10)
  · exact write_ie _ _ v (regionOf_eq a .ie (Nat.lt_of_not_le h10) (Nat.le_of_lt_succ a.isLt))

/-! ### Writes that are lost (R62, R76, R80) -/

/-- The unusable range drops a write and reads the fill value (R62). -/
theorem lost_of_unusable (s : State) (a : Word) (v : Byte) (h : regionOf a = .unusable) :
    s.busWrite a v = s ∧ s.busRead a = Config.fillUnusable :=
  ⟨busWrite_of_write s a v s.bus (write_unusable _ _ v h), read_unusable _ _ h⟩

/-- External RAM that does not answer drops a write and reads the open-bus fill value (R76, R80). -/
theorem lost_of_not_ramOk (s : State) (a : Word) (v : Byte) (h : regionOf a = .xram) (hram : ¬ s.bus.ramOk = true) :
    s.busWrite a v = s ∧ s.busRead a = Config.fillOpenbus :=
  ⟨busWrite_of_write s a v s.bus ((write_xram _ _ v h).trans (if_neg hram)), (read_xram _ _ h).trans (if_neg hram)⟩

/-- When external RAM does not answer (R76, R80). -/
theorem not_ramOk_iff (u : Bus) :
    ¬ u.ramOk = true ↔ u.cart.kind = .romOnly ∨ u.mbc.ramEnable = false ∨ u.cart.ramBanks = 0 := by
  rw [ramOk_iff]
  have hbanks : u.cart.ramBanks.val = 0 ↔ u.cart.ramBanks = 0 := (Fin.ext_iff (b := 0)).symm
  simp only [not_and_or, not_not, Bool.not_eq_true, not_lt, Nat.le_zero, hbanks]

/-- Settles O30: the two ways to lose a write, and a RET that pops two fill bytes. -/
theorem lostWrites : Obligations.LostWrites := by
  unfold Obligations.LostWrites
  intro s lost
  have hlost (a : Word) (v : Byte) (h : lost a) : s.busWrite a v = s ∧ s.busRead a = 0xFF := by
    rcases h with ⟨hlo, hhi⟩ | ⟨hlo, hhi, hram⟩
    · exact lost_of_unusable s a v (regionOf_eq a .unusable hlo hhi)
    · exact lost_of_not_ramOk s a v (regionOf_eq a .xram hlo hhi) ((not_ramOk_iff _).2 hram)
  refine ⟨hlost, fun h0 h1 => ?_⟩
  have hret : exec .ret s = done 16 s.ret := rfl
  rw [hret, ret_eq, (hlost s.sp 0 h0).2, (hlost (s.sp + 1) 0 h1).2]
  rfl

/-! ### One store (R59, R69, R84) -/

/-- Settles O26: the laws of a bus write, in a state. -/
theorem readAfterWrite : Obligations.ReadAfterWrite := by
  unfold Obligations.ReadAfterWrite
  intro s a v ⟨_, hbus, _⟩
  exact ⟨read_write_same s.bus a v hbus, busWrite_of_write _ a v _ (write_twice s.bus a v hbus)⟩

/-- Settles O27: `read_write_other`, in a state. -/
theorem writeLeavesOtherBytes : Obligations.WriteLeavesOtherBytes := by
  unfold Obligations.WriteLeavesOtherBytes
  exact fun s a b v ⟨_, hbus, _⟩ hc hab => read_write_other s.bus a b v hbus hc hab

/-- An echo address and the work RAM address 0x2000 below reach the same offset (D39). -/
theorem echo_mirror (a : Word) (h : regionOf a = .echo) :
    regionOf (a - 0x2000) = .wram ∧ (a - 0x2000).toNat - 0xC000 = a.toNat - 0xE000 := by
  have hb := regionOf_bounds a
  rw [h] at hb
  simp only [Region.first, Region.last] at hb
  have hsub : (a - 0x2000).toNat = a.toNat - 0x2000 := by bv_omega
  exact ⟨regionOf_eq _ .wram (show 0xC000 ≤ _ by omega) (show _ ≤ 0xDFFF by omega), by omega⟩

theorem read_echo_eq_wram (u : Bus) (a : Word) (h : regionOf a = .echo) : u.read a = u.read (a - 0x2000) := by
  obtain ⟨hw, hoff⟩ := echo_mirror a h
  rw [read_echo _ _ h, read_wram _ _ hw, hoff]

theorem write_echo_eq_wram (u : Bus) (a : Word) (v : Byte) (h : regionOf a = .echo) :
    u.write a v = u.write (a - 0x2000) v := by
  obtain ⟨hw, hoff⟩ := echo_mirror a h
  rw [write_echo _ _ _ h, write_wram _ _ _ hw, hoff]

/-- Work RAM keeps what is written. -/
theorem plainByte_of_wram (u : Bus) (a : Word) (h : regionOf a = .wram) : u.plainByte a := by
  have hb := regionOf_bounds a
  rw [h] at hb
  refine ⟨fun hc => absurd (Nat.le_trans hb.1 hc) (by decide), ?_, ?_⟩ <;> simp [h]

/-- Settles O29: both addresses reach one offset of work RAM, which keeps what is written. -/
theorem echoIsWorkRam : Obligations.EchoIsWorkRam := by
  unfold Obligations.EchoIsWorkRam
  intro s a v hlo hhi
  have he : regionOf a = .echo := regionOf_eq a .echo hlo hhi
  have hwrite := write_echo_eq_wram s.bus a v he
  refine ⟨read_echo_eq_wram s.bus a he, busWrite_of_write s a v _ hwrite, fun ⟨_, hbus, _⟩ => ?_⟩
  have hsame := read_write_same s.bus (a - 0x2000) v hbus (plainByte_of_wram _ _ (echo_mirror a he).1)
  simp only [busRead_eq, busWrite_bus, hwrite, read_echo_eq_wram _ a he, hsame, and_self]

/-! ### Words in memory (R65, R66, R150, R151) -/

theorem loByte_ofNat (v : Word) : v.loByte = BitVec.ofNat 8 (v.toNat % 256) := by
  apply BitVec.eq_of_toNat_eq
  simp [Word.loByte]

theorem hiByte_ofNat (v : Word) : v.hiByte = BitVec.ofNat 8 (v.toNat / 256) := by
  apply BitVec.eq_of_toNat_eq
  simp [Word.hiByte, Nat.shiftRight_eq_div_pow]

/-- Two bytes written where writes are kept both read back. -/
theorem read_write_write (u : Bus) (a b : Word) (v w : Byte) (hu : u.ok) (ha : u.plainByte a) (hb : u.plainByte b)
    (hab : ¬ sameByte b a) : ((u.write a v).write b w).read a = v ∧ ((u.write a v).write b w).read b = w := by
  have hu' := write_ok u a v hu
  constructor
  · rw [read_write_other _ b a w hu' hb.1 hab, read_write_same u a v hu ha]
  · exact read_write_same _ b w hu' (plainByte_write u a b v ha.1 hb)

/-- Settles O35: `read_write_write` for the two stores of a word, which join to the word again. -/
theorem wordsAreLittleEndian : Obligations.WordsAreLittleEndian := by
  unfold Obligations.WordsAreLittleEndian
  intro s v ⟨_, hbus, _⟩
  simp only [← loByte_ofNat, ← hiByte_ofNat]
  refine ⟨fun hhi hlo => ?_, fun a hlo hhi => ?_⟩
  · have hsucc : s.sp - 2 + 1 = s.sp - 1 := by bv_omega
    have hback : s.sp - 2 + 2 = s.sp := by bv_omega
    have hne : ¬ sameByte (s.sp - 2) (s.sp - 1) := hsucc ▸ not_sameByte_succ (s.sp - 2)
    obtain ⟨hreadHi, hreadLo⟩ := read_write_write s.bus _ _ v.hiByte v.loByte hbus hhi hlo hne
    simp only [pop16_eq, push16_eq, hsucc, hback, busRead_eq, busWrite_bus, hreadHi, hreadLo, join_halves, and_self]
  · have hne : ¬ sameByte (a + 1) a := fun h => not_sameByte_succ a h.symm
    obtain ⟨hreadLo, hreadHi⟩ := read_write_write s.bus a (a + 1) v.loByte v.hiByte hbus hlo hhi hne
    simp only [State.busRead16, State.busWrite16, busRead_eq, busWrite_bus, hreadHi, hreadLo, join_halves, and_self]

/-! ### The bank controllers (R72 to R82) -/

/-- A register in range never selects ROM bank 0 (R76 to R79). -/
theorem one_le_selRomBank (u : Bus) (h : Mbc.ok u.cart u.mbc = true) : 1 ≤ u.selRomBank := by
  unfold Bus.selRomBank
  unfold Mbc.ok at h
  cases hk : u.cart.kind <;> simp only [hk, Bool.and_eq_true, decide_eq_true_eq] at h ⊢
  case romOnly => exact Nat.le_refl 1
  case mbc1 =>
    obtain ⟨⟨⟨⟨hlow, -⟩, -⟩, -⟩, -⟩ := h
    split
    · exact Nat.le_trans hlow Nat.right_le_or
    · exact hlow
  case mbc3 =>
    obtain ⟨⟨⟨⟨⟨hlow, -⟩, -⟩, -⟩, -⟩, -⟩ := h
    exact hlow
  case mbc5 => split <;> omega

/-- Settles O31: the selected bank is at least 1, and so is the last bank of any image. -/
theorem selectedBanksInRange : Obligations.SelectedBanksInRange := by
  unfold Obligations.SelectedBanksInRange
  intro s h
  have hsel := one_le_selRomBank s.bus h
  have hcount := two_le_bankCount s.bus.cart
  have heff := effRomBank_le s.bus
  refine ⟨hsel, rfl, Nat.le_min.2 ⟨hsel, by omega⟩, fun a hlo hhi => ?_, fun hram => ⟨rfl, fun a _ hhi => ?_⟩⟩
  · unfold Bus.romOffset Config.romBankSize
    omega
  · exact xramOffset_lt s.bus a hram hhi

/-- The sub-range 0000 to 1FFF: the low nibble is compared with the sentinel (R81, D21). -/
theorem mbcControlWrite_ramEnable (u : Bus) (a : Word) (v : Byte) (hk : u.cart.kind ≠ .romOnly) (ha : a.toNat ≤ 0x1FFF) :
    u.mbcControlWrite a v = { u.mbc with ramEnable := decide (v.toNat % 16 = 0xA) } := by
  have hnibble : (v.setWidth 4 == Config.ramEnableSentinel) = decide (v.toNat % 16 = 0xA) := by
    rw [Bool.eq_iff_iff, beq_iff_eq, decide_eq_true_iff, ← BitVec.toNat_inj, BitVec.toNat_setWidth]
    rfl
  rw [Bus.mbcControlWrite, if_neg hk, if_pos ha, hnibble]

/-- The sub-range 2000 to 3FFF is the kind's ROM bank write (R73). -/
theorem mbcControlWrite_romBank (u : Bus) (a : Word) (v : Byte) (hk : u.cart.kind ≠ .romOnly) (hlo : 0x2000 ≤ a.toNat)
    (hhi : a.toNat ≤ 0x3FFF) : u.mbcControlWrite a v = u.romBankWrite a v := by
  rw [Bus.mbcControlWrite, if_neg hk, if_neg (by omega), if_pos hhi]

/-- A kind that coerces a bank number of `k` bits where it is written (R77, R78): 2000 to 3FFF in numbers. -/
theorem mbcControlWrite_coerced (u : Bus) (a : Word) (v : Byte) (k : Nat) (hk : u.cart.kind ≠ .romOnly) (hk8 : k ≤ 8)
    (hw : u.romBankWrite a v = { u.mbc with romLow := u.cart.coerceBank (BitVec.ofNat 8 (2 ^ k - 1)) v })
    (hlo : 0x2000 ≤ a.toNat) (hhi : a.toNat ≤ 0x3FFF) :
    u.mbcControlWrite a v =
      { u.mbc with
        romLow :=
          BitVec.ofNat 8 (if v.toNat % 2 ^ k % u.cart.bankCount = 0 then 1 else v.toNat % 2 ^ k % u.cart.bankCount) } := by
  rw [mbcControlWrite_romBank u a v hk hlo hhi, hw, coerceBank_eq u.cart k hk8]

/-- The sub-range 4000 to 5FFF sets the auxiliary register to the kind's width (R73). -/
theorem mbcControlWrite_aux (u : Bus) (a : Word) (v : Byte) (hk : u.cart.kind ≠ .romOnly) (hlo : 0x4000 ≤ a.toNat)
    (hhi : a.toNat ≤ 0x5FFF) : u.mbcControlWrite a v = { u.mbc with aux := auxOf u.cart.kind v } := by
  rw [Bus.mbcControlWrite, if_neg hk, if_neg (by omega), if_neg (by omega), if_pos hhi]

/-- The sub-range 6000 to 7FFF sets the banking mode of an MBC1 and nothing else (R73, D33). -/
theorem mbcControlWrite_bankMode (u : Bus) (a : Word) (v : Byte) (hk : u.cart.kind ≠ .romOnly) (hlo : 0x6000 ≤ a.toNat) :
    u.mbcControlWrite a v = if u.cart.kind = .mbc1 then { u.mbc with bankMode := v.setWidth 1 } else u.mbc := by
  rw [Bus.mbcControlWrite, if_neg hk, if_neg (by omega), if_neg (by omega), if_neg (by omega)]

/-- A ROM-only cartridge ignores control writes (R76). -/
theorem mbcControlWrite_romOnly (u : Bus) (a : Word) (v : Byte) (hk : u.cart.kind = .romOnly) :
    u.mbcControlWrite a v = u.mbc :=
  if_pos hk

/-- The two bits an MBC1 or MBC3 keeps of a byte written to the auxiliary register (R77, R78). -/
theorem auxOf_two_bits (v : Byte) : v.setWidth 4 &&& (0x3 : BitVec 4) = BitVec.ofNat 4 (v.toNat % 4) := by
  revert v
  decide

/-- A register narrower than a byte keeps the byte's low bits. -/
theorem setWidth_ofNat_mod (w : Nat) (v : Byte) : v.setWidth w = BitVec.ofNat w (v.toNat % 2 ^ w) := by
  apply BitVec.eq_of_toNat_eq
  rw [BitVec.toNat_setWidth, BitVec.toNat_ofNat, Nat.mod_mod]

/-- A number shifted past a narrower one beside it: the two as one number. -/
theorem shiftLeft_or_eq (i hi lo : Nat) (h : lo < 2 ^ i) : hi <<< i ||| lo = 2 ^ i * hi + lo := by
  rw [← Nat.shiftLeft_add_eq_or_of_lt h, Nat.shiftLeft_eq, Nat.mul_comm]

/-- Settles O32: the laws of the four sub-ranges for an MBC1; a shift beside a narrower number is a sum. -/
theorem mbc1Control : Obligations.Mbc1Control := by
  unfold Obligations.Mbc1Control
  intro s a v hk
  have hkind : s.bus.cart.kind ≠ .romOnly := by simp [hk]
  refine ⟨fun ha => mbcControlWrite_ramEnable _ _ _ hkind ha, fun hlo hhi => ?_, fun hlo hhi => ?_, fun hlo hhi => ?_,
    fun hlow => ?_, ?_⟩
  · exact mbcControlWrite_coerced _ _ v 5 hkind (by omega) (by rw [Bus.romBankWrite, hk]; rfl) hlo hhi
  · rw [mbcControlWrite_aux _ _ _ hkind hlo hhi, hk, auxOf, auxOf_two_bits]
  · rw [mbcControlWrite_bankMode _ _ _ hkind hlo, if_pos hk, setWidth_ofNat_mod, Nat.pow_one]
  · have hor : s.bus.mbc.aux.toNat <<< 5 ||| s.bus.mbc.romLow.toNat = 32 * s.bus.mbc.aux.toNat + s.bus.mbc.romLow.toNat :=
      shiftLeft_or_eq 5 _ _ hlow
    simp only [Bus.selRomBank, hk, hor]
  · rw [Bus.selRamBank, hk]

/-- Settles O33: the laws of the four sub-ranges for an MBC3; a ROM-only cartridge has no external RAM to answer. -/
theorem mbc3AndRomOnlyControl : Obligations.Mbc3AndRomOnlyControl := by
  unfold Obligations.Mbc3AndRomOnlyControl
  refine fun s a v => ⟨fun hk => ?_, fun hk => ⟨mbcControlWrite_romOnly _ _ _ hk, ?_, fun hlo hhi => ?_⟩⟩
  · have hkind : s.bus.cart.kind ≠ .romOnly := by simp [hk]
    refine ⟨fun ha => mbcControlWrite_ramEnable _ _ _ hkind ha, fun hlo hhi => ?_, fun hlo hhi => ?_, fun hlo _ => ?_, ?_,
      ?_⟩
    · exact mbcControlWrite_coerced _ _ v 7 hkind (by omega) (by rw [Bus.romBankWrite, hk]; rfl) hlo hhi
    · rw [mbcControlWrite_aux _ _ _ hkind hlo hhi, hk, auxOf, auxOf_two_bits]
    · rw [mbcControlWrite_bankMode _ _ _ hkind hlo, if_neg (by simp [hk])]
    · rw [Bus.selRomBank, hk]
    · rw [Bus.selRamBank, hk]
  · rw [Bus.selRomBank, hk]
  · exact (lost_of_not_ramOk s a v (regionOf_eq a .xram hlo hhi) ((not_ramOk_iff _).2 (.inl hk))).symm

/-- Settles O34: the laws of the four sub-ranges for an MBC5, whose bank number is cut to the bank count where it is read. -/
theorem mbc5Control : Obligations.Mbc5Control := by
  unfold Obligations.Mbc5Control
  intro s a v hk
  have hkind : s.bus.cart.kind ≠ .romOnly := by simp [hk]
  refine ⟨fun ha => mbcControlWrite_ramEnable _ _ _ hkind ha, fun hlo hhi => ?_, fun hlo hhi => ?_, fun hlo hhi => ?_,
    fun hlo _ => ?_, ?_, ?_⟩
  · rw [mbcControlWrite_romBank _ _ _ hkind hlo (by omega), Bus.romBankWrite, hk]
    exact if_pos hhi
  · rw [mbcControlWrite_romBank _ _ _ hkind (by omega) hhi, Bus.romBankWrite, hk, setWidth_ofNat_mod]
    exact if_neg (by omega)
  · rw [mbcControlWrite_aux _ _ _ hkind hlo hhi, hk, auxOf, setWidth_ofNat_mod]
    rfl
  · rw [mbcControlWrite_bankMode _ _ _ hkind hlo, if_neg (by simp [hk])]
  · have hor : s.bus.mbc.romHigh.toNat <<< 8 ||| s.bus.mbc.romLow.toNat =
        256 * s.bus.mbc.romHigh.toNat + s.bus.mbc.romLow.toNat :=
      shiftLeft_or_eq 8 _ _ s.bus.mbc.romLow.isLt
    simp only [Bus.selRomBank, hk, hor, and_bankCount]
  · rw [Bus.selRamBank, hk]

/-! ### Control writes (R56, R73) -/

theorem write_write_control (u : Bus) (a b : Word) (v w : Byte) (ha : isControl a) (hb : isControl b) :
    (u.write a v).write b w = { u with mbc := Bus.mbcControlWrite { u with mbc := u.mbcControlWrite a v } b w } := by
  rw [write_control u a v ha, write_control _ b w hb]

/-- Writes that are all control writes change the bank controller alone (R56). -/
theorem foldl_write_control (xs : List (Word × Byte)) (u : Bus) (h : ∀ x ∈ xs, isControl x.1) :
    xs.foldl (fun u x => u.write x.1 x.2) u =
      { u with mbc := xs.foldl (fun m x => Bus.mbcControlWrite { u with mbc := m } x.1 x.2) u.mbc } := by
  induction xs generalizing u with
  | nil => rfl
  | cons x xs ih =>
    obtain ⟨hx, hxs⟩ := List.forall_mem_cons.1 h
    rw [List.foldl_cons, write_control u _ _ hx, ih _ hxs]
    rfl

/-- A bus write is a control write below 8000 (R53, R56). -/
theorem write_eq_ite (u : Bus) (a : Word) (v : Byte) :
    (if isControl a then { u with mbc := u.mbcControlWrite a v } else u.write a v) = u.write a v := by
  split
  next h => exact (write_control u a v h).symm
  next => rfl

theorem busWrite_control (s : State) (a : Word) (v : Byte) (h : isControl a) :
    s.busWrite a v = { s with bus.mbc := s.bus.mbcControlWrite a v } :=
  busWrite_of_write s a v _ (write_control s.bus a v h)

theorem exec_ldIndROf (r : Reg8) (s : State) : exec (Instr.ldIndROf r) s = done 8 (ldIndReg r s) := by
  cases r <;> rfl

theorem exec_pushOf (q : StackPair) (s : State) : exec (Instr.pushOf q) s = done 16 (pushPair q s) := by
  cases q <;> rfl

theorem exec_incIndHl (s : State) : exec .incIndHl s = done 12 (incOperand .indHl s) := rfl

/-- A push onto addresses below 8000 is two control writes, high byte first (R150, R56, D18). -/
theorem push16_control (s : State) (v : Word) (hhi : isControl (s.sp - 1)) (hlo : isControl (s.sp - 2)) :
    s.push16 v =
      { s with
        sp := s.sp - 2
        bus.mbc :=
          Bus.mbcControlWrite { s.bus with mbc := s.bus.mbcControlWrite (s.sp - 1) v.hiByte } (s.sp - 2) v.loByte } := by
  rw [push16_eq, State.busWrite, busWrite_bus, write_write_control _ _ _ _ _ hhi hlo]
  rfl

/-- What a dispatch with its stack below 8000 does behind the bus: two control writes, and one bit of IF (R298, R56). -/
theorem dispatch_bus_control (s : State) (i : Source) (hhi : isControl (s.sp - 1)) (hlo : isControl (s.sp - 2)) :
    (s.dispatch i).bus =
      { s.bus with
        mbc := Bus.mbcControlWrite { s.bus with mbc := s.bus.mbcControlWrite (s.sp - 1) s.dispatchReturn.hiByte } (s.sp - 2)
          s.dispatchReturn.loByte
        io := Memory.write s.bus.io 0x0F (s.busRead Config.ifAddr &&& ~~~ i.mask) } := by
  rw [dispatch_eq, write_write_control _ _ _ _ _ hhi hlo]
  rfl

/-- A Running step with IME set and a source pending is the dispatch of the lowest one (R290, R297). -/
theorem step_of_pending (s0 : State) (hm : s0.takeInput.2.mode = .running) (hime : s0.takeInput.2.ime = true)
    (hp : s0.takeInput.2.pending ≠ 0) :
    step s0 = done Config.cyclesDispatch (s0.takeInput.2.dispatch (lowestSource s0.takeInput.2.pending)) := by
  simp only [step, State.engineStep, hm]
  exact if_pos ⟨hime, hp⟩

/-- Settles O28: below 8000 each bus write of `memoryChangesOnlyByStores` is a control write, and so are those of the
examples and of a dispatch. -/
theorem romWritesAreControlWrites : Obligations.RomWritesAreControlWrites := by
  unfold Obligations.RomWritesAreControlWrites
  refine ⟨fun s a v ha => ?_, fun i s t hi h hc => ?_, fun i s t hi h => ?_, fun s r ha => ?_, fun s ha => ?_,
    fun s b ha => ?_, fun s q hhi hlo => ?_, fun s0 hm hime hp hhi hlo => ?_⟩
  · exact ⟨busWrite_control s a v ha, congrArg Cartridge.rom (write_cart s.bus a v)⟩
  · obtain ⟨vs, hlen, hbus⟩ := memoryChangesOnlyByStores i s t hi h
    exact ⟨vs, hlen, hbus.trans (foldl_write_control _ _ fun x hx => hc _ (List.of_mem_zip hx).1)⟩
  · obtain ⟨vs, hlen, hbus⟩ := memoryChangesOnlyByStores i s t hi h
    simp only [write_eq_ite]
    exact ⟨congrArg Cartridge.rom (exec_effect i s t hi h).bus.cart, vs, hlen, hbus⟩
  · rw [exec_ldIndROf, ldIndReg, busWrite_control _ _ _ ha]
    rfl
  · rw [exec_incIndHl, incOperand, setFlags_eq, State.write8, busWrite_control _ _ _ ha]
    exact ⟨_, rfl⟩
  · rw [exec_setOf, bitSet, State.write8, busWrite_control _ _ _ ha]
    rfl
  · rw [exec_pushOf, pushPair, push16_control _ _ hhi hlo]
    rfl
  · exact ⟨_, step_of_pending s0 hm hime hp, dispatch_bus_control _ _ hhi hlo⟩

end Sys2Proof.Machine
end

section
/-! PROOFS. The family 30_encoding: the decoder reads back what the encoder writes (R100 to R109), each encoding has one
meaning (R116), the first byte fixes the length (R112), and the eleven illegal opcodes (R110). -/

namespace Sys2Proof

/-! ### What the decoder reads, by the kind of the first byte's slot (R100, R101) -/

theorem decode_of_op {op : Byte} {i : Instr} (h : primarySlot op = .op i) (rest : List Byte) :
    decode (op :: rest) = .ok (i, rest) := by
  simp only [decode, h]

theorem decode_of_opN {op : Byte} {f : Byte → Instr} (h : primarySlot op = .opN f) (n : Byte) (rest : List Byte) :
    decode (op :: n :: rest) = .ok (f n, rest) := by
  simp only [decode, h]

theorem decode_of_opNN {op : Byte} {f : Word → Instr} (h : primarySlot op = .opNN f) (lo hi : Byte) (rest : List Byte) :
    decode (op :: lo :: hi :: rest) = .ok (f (Word.join hi lo), rest) := by
  simp only [decode, h]

theorem decode_of_cb {op : Byte} (h : primarySlot op = .cb) (op2 : Byte) (rest : List Byte) :
    decode (op :: op2 :: rest) = .ok (extendedInstr op2, rest) := by
  simp only [decode, h]

/-- An immediate word is read back from the two bytes it is written as (R107). -/
theorem decode_withWord {op : Byte} {f : Word → Instr} (h : primarySlot op = .opNN f) (nn : Word) (rest : List Byte) :
    decode (withWord op nn ++ rest) = .ok (f nn, rest) := by
  have hread := decode_of_opNN h nn.loByte nn.hiByte rest
  rw [Machine.join_halves] at hread
  exact hread

/-- Whatever the decoder reads, it reads by one of the four kinds of slot. -/
theorem decode_cases {bytes rest : List Byte} {i : Instr} (h : decode bytes = .ok (i, rest)) :
    (∃ op, primarySlot op = .op i ∧ bytes = op :: rest) ∨
    (∃ op f n, primarySlot op = .opN f ∧ i = f n ∧ bytes = op :: n :: rest) ∨
    (∃ op f lo hi, primarySlot op = .opNN f ∧ i = f (Word.join hi lo) ∧ bytes = op :: lo :: hi :: rest) ∨
    ∃ op op2, primarySlot op = .cb ∧ i = extendedInstr op2 ∧ bytes = op :: op2 :: rest := by
  rcases bytes with _ | ⟨op, tail⟩
  · cases h
  simp only [decode] at h
  cases hs : primarySlot op with
  | op j =>
    simp only [hs] at h
    cases h
    exact .inl ⟨op, hs, rfl⟩
  | opN f =>
    rcases tail with _ | ⟨n, tail⟩ <;> simp only [hs] at h <;> cases h
    exact .inr (.inl ⟨op, f, n, hs, rfl, rfl⟩)
  | opNN f =>
    rcases tail with _ | ⟨lo, _ | ⟨hi, tail⟩⟩ <;> simp only [hs] at h <;> cases h
    exact .inr (.inr (.inl ⟨op, f, lo, hi, hs, rfl, rfl⟩))
  | cb =>
    rcases tail with _ | ⟨op2, tail⟩ <;> simp only [hs] at h <;> cases h
    exact .inr (.inr (.inr ⟨op, op2, hs, rfl, rfl⟩))

/-- Three bytes are enough for any instruction (R100). -/
theorem exists_decode (op b1 b2 : Byte) :
    ∃ (i : Instr) (rest : List Byte), decode [op, b1, b2] = .ok (i, rest) := by
  cases hs : primarySlot op with
  | op i => exact ⟨_, _, decode_of_op hs _⟩
  | opN f => exact ⟨_, _, decode_of_opN hs _ _⟩
  | opNN f => exact ⟨_, _, decode_of_opNN hs _ _ _⟩
  | cb => exact ⟨_, _, decode_of_cb hs _ _⟩

/-! ### Encoding and decoding (R102 to R109, R116) -/

/-- The decoder reads a pattern line back from its bytes, for every value of its fields: its opcode with those fields
selects the slot of its instruction. CB alone is no instruction (R276). -/
theorem decode_form_encode (f : Form) (hf : f ≠ .prefixCb) (rest : List Byte) :
    decode (f.encode ++ rest) = .ok (f.toInstr, rest) := by
  cases f with
  | prefixCb => exact absurd rfl hf
  | nop | rlca | rrca | rla | rra | daa | cpl | scf | ccf | halt | ret | reti | jpHl | ldSpHl | ldhCA | ldhAC | di | ei =>
    exact decode_of_op rfl rest
  | stop n | jr n | ldIndN n | ldhNA n | ldhAN n | addSpE n | ldHlSpE n => exact decode_of_opN rfl n rest
  | ldNnSp nn | ldNnA nn | ldANn nn | jpNn nn | callNn nn => exact decode_withWord rfl nn rest
  | retCc cc => cases cc <;> exact decode_of_op rfl rest
  | jrCc cc n => cases cc <;> exact decode_of_opN rfl n rest
  | jpCc cc nn | callCc cc nn => cases cc <;> exact decode_withWord rfl nn rest
  | addHl rr | incPair rr | decPair rr => cases rr <;> exact decode_of_op rfl rest
  | ldPairNn rr nn => cases rr <;> exact decode_withWord rfl nn rest
  | pop qq | push qq => cases qq <;> exact decode_of_op rfl rest
  | ldIndA m | ldAInd m => cases m <;> exact decode_of_op rfl rest
  | rst t => cases t <;> exact decode_of_op rfl rest
  | illegal x => cases x <;> exact decode_of_op rfl rest
  | ldRInd r | ldIndR r => cases r <;> exact decode_of_op rfl rest
  | ldRN r n => cases r <;> exact decode_of_opN rfl n rest
  | ldRR r r' => cases r <;> cases r' <;> exact decode_of_op rfl rest
  | inc o | dec o => rcases o with (_ | _ | _ | _ | _ | _ | _) | _ <;> exact decode_of_op rfl rest
  | alu op o => cases op <;> rcases o with (_ | _ | _ | _ | _ | _ | _) | _ <;> exact decode_of_op rfl rest
  | aluN op n => cases op <;> exact decode_of_opN rfl n rest
  | rot op o => cases op <;> rcases o with (_ | _ | _ | _ | _ | _ | _) | _ <;> exact decode_of_cb rfl _ rest
  | bit b o | res b o | set b o =>
    cases b <;> rcases o with (_ | _ | _ | _ | _ | _ | _) | _ <;> exact decode_of_cb rfl _ rest

/-- The pattern line of a well-formed instruction is not CB alone (R276). -/
theorem form_ne_prefixCb {i : Instr} (hi : i.wellFormed = true) : i.form ≠ .prefixCb := by
  intro hform
  have hbare : i = .prefixCb := by rw [← form_toInstr i, hform]; rfl
  rw [hbare] at hi
  exact absurd hi (by decide)

/-- Settles O1: an instruction is its pattern line, which `decode_form_encode` reads back. -/
theorem decodeInvertsEncode : Obligations.DecodeInvertsEncode := by
  unfold Obligations.DecodeInvertsEncode
  intro i rest hi
  rw [encode, decode_form_encode i.form (form_ne_prefixCb hi) rest, form_toInstr]

/-- Settles O2: what was read stands in a slot, and every slot encodes to the bytes that select it (`primarySlot_spec`,
`extendedInstr_spec`). -/
theorem encodeInvertsDecode : Obligations.EncodeInvertsDecode := by
  unfold Obligations.EncodeInvertsDecode
  intro bytes rest i h
  obtain ⟨op, hs, rfl⟩ | ⟨op, f, n, hs, rfl, rfl⟩ | ⟨op, f, lo, hi, hs, rfl, rfl⟩ | ⟨op, op2, hs, rfl, rfl⟩ :=
    decode_cases h <;> have hslot := primarySlot_spec op <;> simp only [hs] at hslot
  · exact ⟨hslot.1, by rw [hslot.2]; rfl⟩
  · exact ⟨(hslot n).1, by rw [(hslot n).2]; rfl⟩
  · obtain ⟨hwf, henc⟩ := hslot (Word.join hi lo)
    rw [Machine.hiByte_join, Machine.loByte_join] at henc
    exact ⟨hwf, by rw [henc]; rfl⟩
  · obtain ⟨hwf, henc⟩ := extendedInstr_spec op2
    exact ⟨hwf, by rw [henc, hslot]; rfl⟩

/-! ### Lengths (R100, R112) -/

/-- How many bytes an instruction of the slot has, the opcode included (R100). -/
def Slot.length : Slot → Nat
  | .op _ => 1
  | .opN _ => 2
  | .opNN _ => 3
  | .cb => 2

theorem Slot.length_bounds (t : Slot) : 1 ≤ t.length ∧ t.length ≤ 3 := by
  cases t <;> simp [Slot.length]

/-- The slot of an instruction's first byte gives its length. -/
theorem encode_length_of_wellFormed {i : Instr} (hwf : i.wellFormed = true) :
    ∃ op, (encode i).head? = some op ∧ (encode i).length = (primarySlot op).length := by
  have hread := decodeInvertsEncode i [] hwf
  rw [List.append_nil] at hread
  obtain ⟨op, hs, hb⟩ | ⟨op, f, n, hs, -, hb⟩ | ⟨op, f, lo, hi, hs, -, hb⟩ | ⟨op, op2, hs, -, hb⟩ := decode_cases hread <;>
    exact ⟨op, by rw [hb]; rfl, by rw [hb, hs]; rfl⟩

/-- Settles O3: `encode_length_of_wellFormed` on one instruction, on two, and at CB. -/
theorem lengthFollowsFromFirstByte : Obligations.LengthFollowsFromFirstByte := by
  unfold Obligations.LengthFollowsFromFirstByte
  refine ⟨fun i hi => ?_, fun i j hi hj hhead => ?_, fun i hi hhead => ?_⟩ <;>
    obtain ⟨op, hop, hlen⟩ := encode_length_of_wellFormed hi
  · rw [hlen]
    exact (primarySlot op).length_bounds
  · obtain ⟨op', hop', hlen'⟩ := encode_length_of_wellFormed hj
    have hsame : op = op' := by rwa [hop, hop', Option.some.injEq] at hhead
    rw [hlen, hlen', hsame]
  · have hcb : op = 0xCB := by rwa [hop, Option.some.injEq] at hhead
    rw [hlen, hcb]
    rfl

/-! ### The illegal opcodes (R110) -/

/-- The bytes of the eleven illegal rows (R110, D2). -/
theorem mem_illegalBytes_iff (op : Byte) :
    op ∈ ([0xD3, 0xDB, 0xDD, 0xE3, 0xE4, 0xEB, 0xEC, 0xED, 0xF4, 0xFC, 0xFD] : List Byte) ↔
      ∃ x : IllegalOp, op = x.byte := by
  constructor
  · intro h
    simp only [List.mem_cons, List.not_mem_nil, or_false] at h
    obtain h | h | h | h | h | h | h | h | h | h | h := h
    exacts [⟨.xD3, h⟩, ⟨.xDB, h⟩, ⟨.xDD, h⟩, ⟨.xE3, h⟩, ⟨.xE4, h⟩, ⟨.xEB, h⟩, ⟨.xEC, h⟩, ⟨.xED, h⟩, ⟨.xF4, h⟩,
      ⟨.xFC, h⟩, ⟨.xFD, h⟩]
  · rintro ⟨x, rfl⟩
    cases x <;> decide

/-- Settles O6: an illegal opcode's bytes are its own byte (`encodeInvertsDecode`), and that byte decodes to it
(`decode_form_encode`). -/
theorem elevenOpcodesAreIllegal : Obligations.ElevenOpcodesAreIllegal := by
  unfold Obligations.ElevenOpcodesAreIllegal
  refine fun op b1 b2 => ⟨exists_decode op b1 b2, fun i rest h => ?_⟩
  rw [mem_illegalBytes_iff]
  constructor
  · rintro ⟨x, rfl⟩
    obtain ⟨-, hbytes⟩ := encodeInvertsDecode _ _ _ h
    rw [show encode (Instr.illegalOf x) = [x.byte] from encode_toInstr (.illegal x)] at hbytes
    exact ⟨x, (List.cons.inj hbytes).1.symm⟩
  · rintro ⟨x, rfl⟩
    have hread : decode [x.byte, b1, b2] = .ok (Instr.illegalOf x, [b1, b2]) :=
      decode_form_encode (.illegal x) nofun [b1, b2]
    rw [hread] at h
    cases h
    exact ⟨x, rfl⟩

/-! ### The extended table (R109) -/

/-- Settles O5: each field pattern is an extended pattern line's encoding, read back by `decode_form_encode`. -/
theorem extendedTableByFields : Obligations.ExtendedTableByFields := by
  unfold Obligations.ExtendedTableByFields
  intro k b o rest
  have hrot : BitVec.ofNat 8 (8 * k.code + o.code) = opcodeByte 0 k.code o.code := by
    rw [opcodeByte, Nat.mul_zero, Nat.zero_add]
  refine ⟨?_, ?_, ?_, ?_⟩
  · rw [hrot]
    exact decode_form_encode (.rot k o) nofun rest
  · exact decode_form_encode (.bit b o) nofun rest
  · exact decode_form_encode (.res b o) nofun rest
  · exact decode_form_encode (.set b o) nofun rest

end Sys2Proof
end

section
/-! PROOFS. The family 40_load8: the 8-bit loads, each read from its opcode by `decode_form_encode` or its slot of the
primary table, and each run as its pattern line by `exec_toInstr` (R121 to R139); and the spec's own example words. -/

namespace Sys2Proof

open Machine

/-- A register that takes its own byte leaves the state as it is (R121). -/
theorem setReg_reg_self (s : State) (r : Reg8) : s.setReg r (s.reg r) = s := by
  cases r <;> rfl

/-- The fixed outer fields of an opcode byte plus its middle field are that opcode byte (R102). -/
theorem ofNat_add_middleField (x y z : Nat) : BitVec.ofNat 8 (64 * x + z + 8 * y) = opcodeByte x y z := by
  rw [opcodeByte, Nat.add_right_comm]

/-- Settles O4: each example is the encoding of a pattern line with its fields filled in, read back by
`decode_form_encode`. -/
theorem exampleWordsDecode : Obligations.ExampleWordsDecode := by
  unfold Obligations.ExampleWordsDecode
  exact ⟨decode_form_encode (.ldRR .b .a) nofun [],
    decode_form_encode (.ldRN .a 0x42) nofun [],
    decode_form_encode (.ldIndN 0x7F) nofun [],
    decode_form_encode (.ldANn 0xC234) nofun [],
    decode_form_encode (.ldPairNn .hl 0x1234) nofun [],
    decode_form_encode (.ldNnSp 0xC100) nofun [],
    decode_form_encode (.aluN .add 0xFF) nofun [],
    decode_form_encode (.addHl .bc) nofun [],
    decode_form_encode (.rot .rl (.reg .l)) nofun [],
    decode_form_encode (.bit .i7 (.reg .a)) nofun [],
    decode_form_encode (.set .i1 (.reg .e)) nofun [],
    decode_form_encode (.jr 0xFB) nofun [],
    decode_form_encode (.callNn 0x1234) nofun [],
    decode_form_encode (.rst .i5) nofun [],
    decode_form_encode (.stop 0x00) nofun [],
    decode_form_encode (.illegal .xDD) nofun []⟩

/-- Settles O39: each of the five shapes is one pattern line for all its registers; `LD r,r` writes back what the register
holds (`setReg_reg_self`). -/
theorem loadRegisterAndByteAtHl : Obligations.LoadRegisterAndByteAtHl := by
  unfold Obligations.LoadRegisterAndByteAtHl
  intro s rest n
  refine ⟨fun r q => ⟨?_, ?_, ?_, ?_⟩, fun r => ?_, fun r => ⟨?_, ?_⟩, fun r => ⟨?_, ?_⟩, fun q => ⟨?_, ?_⟩, ?_, ?_⟩
  · exact decode_form_encode (.ldRR r q) nofun rest
  · exact exec_toInstr (.ldRR r q) s
  · rw [reg_setReg, if_pos rfl]
  · rw [reg_setReg, ite_self]
  · have hrun : exec (Instr.ldRROf r r) s = .next { s.setReg r (s.reg r) with cycles := 4 } :=
      exec_toInstr (.ldRR r r) s
    rwa [setReg_reg_self] at hrun
  · have hop : BitVec.ofNat 8 (0x06 + 8 * r.code) = opcodeByte 0 r.code 6 := ofNat_add_middleField 0 r.code 6
    rw [hop]
    exact decode_form_encode (.ldRN r n) nofun rest
  · exact exec_toInstr (.ldRN r n) s
  · have hop : BitVec.ofNat 8 (0x46 + 8 * r.code) = opcodeByte 1 r.code 6 := ofNat_add_middleField 1 r.code 6
    rw [hop]
    exact decode_form_encode (.ldRInd r) nofun rest
  · exact exec_toInstr (.ldRInd r) s
  · exact decode_form_encode (.ldIndR q) nofun rest
  · exact exec_ldIndROf q s
  · exact decode_form_encode (.ldIndN n) nofun rest
  · exact exec_toInstr (.ldIndN n) s

/-- Settles O40: the eight forms are the two accumulator-indirect pattern lines, each at its four addressing modes. -/
theorem loadAccumulatorIndirect : Obligations.LoadAccumulatorIndirect := by
  unfold Obligations.LoadAccumulatorIndirect
  intro s rest
  have hload (m : Indirect) : exec (Instr.ldAIndOf m) s = done 8 (ldAccInd m s) := exec_toInstr (.ldAInd m) s
  have hstore (m : Indirect) : exec (Instr.ldIndAOf m) s = done 8 (ldIndAcc m s) := exec_toInstr (.ldIndA m) s
  exact ⟨⟨decode_form_encode (.ldAInd .bc) nofun rest, hload .bc⟩,
    ⟨decode_form_encode (.ldAInd .de) nofun rest, hload .de⟩,
    ⟨decode_form_encode (.ldIndA .bc) nofun rest, hstore .bc⟩,
    ⟨decode_form_encode (.ldIndA .de) nofun rest, hstore .de⟩,
    ⟨decode_form_encode (.ldIndA .hlInc) nofun rest, hstore .hlInc⟩,
    ⟨decode_form_encode (.ldIndA .hlDec) nofun rest, hstore .hlDec⟩,
    ⟨decode_form_encode (.ldAInd .hlInc) nofun rest, hload .hlInc⟩,
    ⟨decode_form_encode (.ldAInd .hlDec) nofun rest, hload .hlDec⟩⟩

/-- Settles O41: the operand bytes name the address (`join_ofNat`, `highPage_ofNat`), and each form is its own pattern
line. -/
theorem loadAccumulatorAbsolute : Obligations.LoadAccumulatorAbsolute := by
  unfold Obligations.LoadAccumulatorAbsolute
  intro s rest n lo hi
  simp only [join_ofNat, highPage_ofNat]
  exact ⟨⟨decode_of_opNN rfl lo hi rest, exec_toInstr (.ldANn (Word.join hi lo)) s⟩,
    ⟨decode_of_opNN rfl lo hi rest, exec_toInstr (.ldNnA (Word.join hi lo)) s⟩,
    ⟨decode_of_opN rfl n rest, exec_toInstr (.ldhAN n) s⟩,
    ⟨decode_of_opN rfl n rest, exec_toInstr (.ldhNA n) s⟩,
    ⟨decode_of_op rfl rest, exec_toInstr .ldhAC s⟩,
    ⟨decode_of_op rfl rest, exec_toInstr .ldhCA s⟩⟩

end Sys2Proof
end

section
/-! PROOFS. The family 41_load16: the 16-bit loads, PUSH and POP, each read from its opcode by its slot of the primary table
or its pattern line, and each run as its pattern line by `exec_toInstr` (R150 to R157); and `ADD SP,e` (R213), which shares
its sum and its flags with `LD HL,SP+e`. -/

namespace Sys2Proof.Machine

/-! ### SP plus a signed displacement (R155, R213) -/

/-- Adding a sign-extended byte is adding its signed value, modulo 0x10000 (R107). -/
theorem add_sext_ofInt (v : Word) (e : Byte) : v + e.sext = BitVec.ofInt 16 ((v.toNat : Int) + e.toInt) := by
  rw [BitVec.ofInt_add, BitVec.ofInt_natCast, BitVec.ofNat_toNat, BitVec.setWidth_eq, Byte.sext, BitVec.signExtend]

/-- The half carry in numbers: the low nibbles of SP and of the unsigned byte (R155, R213). -/
theorem spHalf_eq (sp : Word) (e : Byte) : spHalf sp e = decide (sp.toNat % 16 + e.toNat % 16 > 0xF) := by
  have hsp : (sp &&& 0x000F).toNat = sp.toNat % 16 := by
    rw [BitVec.toNat_and]
    exact Nat.and_two_pow_sub_one_eq_mod _ 4
  rw [spHalf, hsp, lowNibble_toNat]

/-- The carry in numbers: the low byte of SP and the unsigned byte (R155, R213). -/
theorem spCarry_eq (sp : Word) (e : Byte) : spCarry sp e = decide (sp.toNat % 256 + e.toNat > 0xFF) := by
  have hsp : (sp &&& 0x00FF).toNat = sp.toNat % 256 := by
    rw [BitVec.toNat_and]
    exact Nat.and_two_pow_sub_one_eq_mod _ 8
  rw [spCarry, hsp]

/-! ### A pair takes two bytes (R21, R152, R157) -/

theorem setPair_bc_join (s : State) (hi lo : Byte) : s.setPair .bc (Word.join hi lo) = { s with b := hi, c := lo } := by
  simp only [State.setPair, hiByte_join, loByte_join]

theorem setPair_de_join (s : State) (hi lo : Byte) : s.setPair .de (Word.join hi lo) = { s with d := hi, e := lo } := by
  simp only [State.setPair, hiByte_join, loByte_join]

theorem setPair_hl_join (s : State) (hi lo : Byte) : s.setPair .hl (Word.join hi lo) = { s with h := hi, l := lo } := by
  simp only [State.setPair, State.setHl, hiByte_join, loByte_join]

/-- AF takes its low byte by a write of F, which masks it (R22, R157). -/
theorem setStackPair_af_join (s : State) (hi lo : Byte) :
    s.setStackPair .af (Word.join hi lo) = { s with a := hi, f := lo &&& 0xF0 } := by
  simp only [State.setStackPair, State.setF, hiByte_join, loByte_join]

/-- A pop: the pair takes the word at SP, and SP is raised by two (R151, R157). -/
theorem popPair_eq (q : StackPair) (s : State) :
    popPair q s =
      ({ s with sp := s.sp + 2 } : State).setStackPair q (Word.join (s.busRead (s.sp + 1)) (s.busRead s.sp)) := by
  rw [popPair, pop16_eq]

end Sys2Proof.Machine

namespace Sys2Proof

open Machine

/-- An opcode byte plus a pair field in its bits 5 and 4 is that opcode byte (R102, R104). -/
theorem ofNat_add_pairField (x p z : Nat) : BitVec.ofNat 8 (64 * x + z + 16 * p) = opcodeByte x (2 * p) z := by
  rw [← ofNat_add_middleField, ← Nat.mul_assoc]

/-- Settles O44: the signed sum is `add_sext_ofInt`, H and C are `spHalf_eq` and `spCarry_eq`, for both instructions. -/
theorem stackPointerDisplacement : Obligations.StackPointerDisplacement := by
  unfold Obligations.StackPointerDisplacement
  intro s rest e
  rw [← add_sext_ofInt, ← spHalf_eq, ← spCarry_eq]
  refine ⟨⟨decode_of_opN rfl e rest, (exec_toInstr (.ldHlSpE e) s).trans ?_⟩,
    ⟨decode_of_opN rfl e rest, (exec_toInstr (.addSpE e) s).trans ?_⟩⟩
  · rw [Form.run, ldHlSpDisp, setFlags_eq]
    rfl
  · rw [Form.run, addSpDisp, setFlags_eq]
    rfl

/-- Settles O42: the four immediate loads are one pattern line, and a pair takes its two bytes as they are
(`setPair_bc_join` and its like). -/
theorem loadPairs : Obligations.LoadPairs := by
  unfold Obligations.LoadPairs
  intro s rest lo hi
  rw [join_ofNat]
  have hload (rr : Pair) :
      exec (Instr.ldPairNnOf rr (Word.join hi lo)) s = done 12 (s.setPair rr (Word.join hi lo)) :=
    exec_toInstr (.ldPairNn rr (Word.join hi lo)) s
  refine ⟨fun rr => ?_, (hload .bc).trans ?_, (hload .de).trans ?_, (hload .hl).trans ?_, hload .sp,
    decode_of_op rfl rest, exec_toInstr .ldSpHl s⟩
  · cases rr <;> exact decode_of_opNN rfl lo hi rest
  · rw [setPair_bc_join, done_eq]
  · rw [setPair_de_join, done_eq]
  · rw [setPair_hl_join, done_eq]

/-- Settles O43: a push is two bus writes (`push16_eq`), a pop two reads whose bytes the pair takes (`popPair_eq`), AF
through a write of F (`setStackPair_af_join`). -/
theorem stackTransfers : Obligations.StackTransfers := by
  unfold Obligations.StackTransfers
  intro s rest lo hi
  rw [join_ofNat]
  have hpop (q : StackPair) : exec (Instr.popOf q) s = done 12 (({ s with sp := s.sp + 2 } : State).setStackPair q
      (Word.join (s.busRead (s.sp + 1)) (s.busRead s.sp))) := by
    rw [← popPair_eq]
    exact exec_toInstr (.pop q) s
  refine ⟨fun q => ⟨?_, (exec_toInstr (.push q) s).trans ?_⟩, fun q => ?_, (hpop .bc).trans ?_, (hpop .de).trans ?_,
    (hpop .hl).trans ?_, (hpop .af).trans ?_, decode_of_opNN rfl lo hi rest,
    exec_toInstr (.ldNnSp (Word.join hi lo)) s⟩
  · have hop : BitVec.ofNat 8 (0xC5 + 16 * q.code) = opcodeByte 3 (2 * q.code) 5 := ofNat_add_pairField 3 q.code 5
    rw [hop]
    exact decode_form_encode (.push q) nofun rest
  · rw [Form.run, pushPair, push16_eq, done_eq]
  · have hop : BitVec.ofNat 8 (0xC1 + 16 * q.code) = opcodeByte 3 (2 * q.code) 1 := ofNat_add_pairField 3 q.code 1
    rw [hop]
    exact decode_form_encode (.pop q) nofun rest
  · exact congrArg (done 12) (setPair_bc_join _ _ _)
  · exact congrArg (done 12) (setPair_de_join _ _ _)
  · exact congrArg (done 12) (setPair_hl_join _ _ _)
  · rw [setStackPair_af_join, done_eq]

end Sys2Proof
end

section
/-! PROOFS. The family 42_alu8: the 8-bit arithmetic and logic, each operation's results and flags in numbers (R165 to R167,
R192 to R196), each instruction read from its opcode by `decode_form_encode` and run by `exec_aluOf` or `exec_toInstr`; and
why DAA corrects a packed BCD sum or difference (R196). -/

namespace Sys2Proof.Machine

/-! ### Sums and differences in numbers (R165, R166) -/

theorem ofInt_sub (i j : Int) : BitVec.ofInt 8 (i - j) = BitVec.ofInt 8 i - BitVec.ofInt 8 j := by
  rw [Int.sub_eq_add_neg, BitVec.ofInt_add, BitVec.ofInt_neg, BitVec.sub_eq_add_neg]

theorem ofInt_toNat (v : Byte) : BitVec.ofInt 8 (v.toNat : Int) = v := by
  rw [BitVec.ofInt_natCast, BitVec.ofNat_toNat, BitVec.setWidth_eq]

/-- Z of a result given as an integer. -/
theorem ofInt_beq_zero (i : Int) : (BitVec.ofInt 8 i == 0) = decide (i % 256 = 0) := by
  rw [beq_eq_decide, decide_eq_decide, ← BitVec.toNat_inj, BitVec.toNat_ofInt]
  change (i % 256).toNat = 0 ↔ i % 256 = 0
  omega

/-- A sum with its four flags in numbers (R165). -/
theorem add8_eq (a b : Byte) (cin : Bool) :
    add8 a b cin =
      { res := BitVec.ofNat 8 (a.toNat + b.toNat + cin.toNat)
        z := decide ((a.toNat + b.toNat + cin.toNat) % 256 = 0)
        n := false
        h := decide (a.toNat % 16 + b.toNat % 16 + cin.toNat > 0xF)
        c := decide (a.toNat + b.toNat + cin.toNat > 0xFF) } := by
  have hzero : (BitVec.ofNat 8 (a.toNat + b.toNat + cin.toNat) == 0) =
      decide ((a.toNat + b.toNat + cin.toNat) % 256 = 0) := ofNat_beq_zero _
  simp only [add8, hzero, lowNibble_toNat]

/-- A difference with its four flags in numbers (R166). -/
theorem sub8_eq (a b : Byte) (cin : Bool) :
    sub8 a b cin =
      { res := BitVec.ofInt 8 ((a.toNat : Int) - b.toNat - cin.toNat)
        z := decide (a.toNat = b.toNat + cin.toNat ∨ a.toNat + 256 = b.toNat + cin.toNat)
        n := true
        h := decide (a.toNat % 16 < b.toNat % 16 + cin.toNat)
        c := decide (a.toNat < b.toNat + cin.toNat) } := by
  have hres : a - b - BitVec.ofNat 8 cin.toNat = BitVec.ofInt 8 ((a.toNat : Int) - b.toNat - cin.toNat) := by
    rw [ofInt_sub, ofInt_sub, ofInt_toNat, ofInt_toNat, BitVec.ofInt_natCast]
  have hzero : ((a.toNat : Int) - b.toNat - cin.toNat) % 256 = 0 ↔
      a.toNat = b.toNat + cin.toNat ∨ a.toNat + 256 = b.toNat + cin.toNat := by
    have := a.isLt
    have := b.isLt
    have := cin.toNat_le
    omega
  simp only [sub8, hres, ofInt_beq_zero, hzero, lowNibble_toNat]

/-! ### Accumulator operations (R168 to R191) -/

/-- An operation that adds leaves the sum and its flags (R168 to R173). -/
theorem done_aluByte_of_add8 {op : AluOp} {v : Byte} {s : State} {cin : Bool} (hop : op ≠ .cp)
    (hadd : aluCompute op s.a v s.flagC = add8 s.a v cin) (cycles : Nat) :
    done cycles (aluByte op v s) = .next
      { s with
        a := BitVec.ofNat 8 (s.a.toNat + v.toNat + cin.toNat)
        f := flagByte (decide ((s.a.toNat + v.toNat + cin.toNat) % 256 = 0)) false
          (decide (s.a.toNat % 16 + v.toNat % 16 + cin.toNat > 0xF))
          (decide (s.a.toNat + v.toNat + cin.toNat > 0xFF))
        cycles := cycles } := by
  rw [done_eq, aluByte_eq, hadd, add8_eq, if_neg hop]

/-- An operation that subtracts leaves the flags of the difference, and the difference itself in A unless it is a comparison
(R174 to R179, R189 to R191). -/
theorem done_aluByte_of_sub8 {op : AluOp} {v : Byte} {s : State} {cin : Bool}
    (hsub : aluCompute op s.a v s.flagC = sub8 s.a v cin) (cycles : Nat) :
    done cycles (aluByte op v s) = .next
      { s with
        a := if op = .cp then s.a else BitVec.ofInt 8 ((s.a.toNat : Int) - v.toNat - cin.toNat)
        f := flagByte (decide (s.a.toNat = v.toNat + cin.toNat ∨ s.a.toNat + 256 = v.toNat + cin.toNat)) true
          (decide (s.a.toNat % 16 < v.toNat % 16 + cin.toNat)) (decide (s.a.toNat < v.toNat + cin.toNat))
        cycles := cycles } := by
  rw [done_eq, aluByte_eq, hsub, sub8_eq]

/-- A logical operation leaves its result, Z from it, and the H its table row forces (R167, R180 to R188). -/
theorem done_aluByte_of_logic8 {op : AluOp} {v res : Byte} {s : State} {h : Bool} (hop : op ≠ .cp)
    (hlogic : aluCompute op s.a v s.flagC = logic8 res h) (cycles : Nat) :
    done cycles (aluByte op v s) = .next
      { s with a := res, f := flagByte (decide (res = 0)) false h false, cycles := cycles } := by
  rw [done_eq, aluByte_eq, hlogic, if_neg hop, logic8, beq_eq_decide]

/-! ### INC and DEC (R192 to R195) -/

theorem incOperand_eq (o : Opnd) (s : State) :
    incOperand o s =
      { s.write8 o (BitVec.ofNat 8 ((s.read8 o).toNat + 1)) with
        f := flagByte (decide ((s.read8 o).toNat = 0xFF)) false (decide ((s.read8 o).toNat % 16 = 0xF)) s.flagC } := by
  have hres : s.read8 o + 1 = BitVec.ofNat 8 ((s.read8 o).toNat + 1) := by
    rw [BitVec.ofNat_add, BitVec.ofNat_toNat, BitVec.setWidth_eq]
    rfl
  have hzero : (BitVec.ofNat 8 ((s.read8 o).toNat + 1) == 0) = decide ((s.read8 o).toNat = 0xFF) := by
    have := (s.read8 o).isLt
    exact (ofNat_beq_zero _).trans (decide_eq_decide.mpr (by omega))
  have hhalf : incHalf (s.read8 o) = decide ((s.read8 o).toNat % 16 = 0xF) := by
    rw [incHalf, beq_eq_decide, decide_eq_decide, ← BitVec.toNat_inj, lowNibble_toNat]
    rfl
  simp only [incOperand, setFlags_eq, hres, hzero, hhalf]

theorem decOperand_eq (o : Opnd) (s : State) :
    decOperand o s =
      { s.write8 o (BitVec.ofNat 8 ((s.read8 o).toNat + 255)) with
        f := flagByte (decide ((s.read8 o).toNat = 1)) true (decide ((s.read8 o).toNat % 16 = 0)) s.flagC } := by
  have hres : s.read8 o - 1 = BitVec.ofNat 8 ((s.read8 o).toNat + 255) := by
    rw [BitVec.ofNat_add, BitVec.ofNat_toNat, BitVec.setWidth_eq, BitVec.sub_eq_add_neg]
    rfl
  have hzero : (BitVec.ofNat 8 ((s.read8 o).toNat + 255) == 0) = decide ((s.read8 o).toNat = 1) := by
    have := (s.read8 o).isLt
    exact (ofNat_beq_zero _).trans (decide_eq_decide.mpr (by omega))
  have hhalf : decHalf (s.read8 o) = decide ((s.read8 o).toNat % 16 = 0) := by
    rw [decHalf, beq_eq_decide, decide_eq_decide, ← BitVec.toNat_inj, lowNibble_toNat]
    rfl
  simp only [decOperand, setFlags_eq, hres, hzero, hhalf]

/-! ### DAA in numbers (R196) -/

/-- The carry `DAA` leaves: after an addition, also set by an A above 0x99 (R196). -/
def daaCarry (a : Byte) (n c : Bool) : Bool := c || (!n && decide (a.toNat > 0x99))

/-- The integer `DAA` leaves in A modulo 0x100 (R196). -/
def daaAdjusted (a : Byte) (n h c : Bool) : Int :=
  if n then a.toNat - (if c then 0x60 else 0) - (if h then 0x06 else 0)
  else a.toNat + (if daaCarry a n c then 0x60 else 0) + (if h || decide (a.toNat % 16 > 9) then 0x06 else 0)

theorem ofInt_add_ite (p : Prop) [Decidable p] (i k : Int) :
    BitVec.ofInt 8 (i + if p then k else 0) = if p then BitVec.ofInt 8 i + BitVec.ofInt 8 k else BitVec.ofInt 8 i := by
  split
  · exact BitVec.ofInt_add i k
  · rw [Int.add_zero]

theorem ofInt_sub_ite (p : Prop) [Decidable p] (i k : Int) :
    BitVec.ofInt 8 (i - if p then k else 0) = if p then BitVec.ofInt 8 i - BitVec.ofInt 8 k else BitVec.ofInt 8 i := by
  split
  · exact ofInt_sub i k
  · rw [Int.sub_zero]

theorem daa_eq (a : Byte) (n h c : Bool) :
    daa a n h c = (BitVec.ofInt 8 (daaAdjusted a n h c), daaCarry a n c) := by
  cases n with
  | true =>
    simp only [daa, daaAdjusted, daaCarry, if_true, ofInt_sub_ite, ofInt_toNat, Bool.not_true, Bool.false_and, Bool.or_false]
    rfl
  | false =>
    simp only [daa, daaAdjusted, daaCarry, Bool.false_eq_true, if_false, ofInt_add_ite, ofInt_toNat, lowNibble_toNat,
      Bool.not_false, Bool.true_and]
    rfl

/-- `DAA` writes A and F, and nothing else (R196). -/
theorem decimalAdjust_eq (s : State) :
    decimalAdjust s =
      { s with
        a := BitVec.ofInt 8 (daaAdjusted s.a s.flagN s.flagH s.flagC)
        f := flagByte (decide (daaAdjusted s.a s.flagN s.flagH s.flagC % 256 = 0)) s.flagN false
          (daaCarry s.a s.flagN s.flagC) } := by
  simp only [decimalAdjust, setFlags_eq, daa_eq, ofInt_beq_zero]

/-! ### DAA on packed BCD (R196) -/

/-- Two decimal digits in the two nibbles of a byte (R196). -/
def packedBcd (k : Nat) : Byte := BitVec.ofNat 8 (16 * (k / 10) + k % 10)

theorem packedBcd_toNat {k : Nat} (hk : k < 100) : (packedBcd k).toNat = 16 * (k / 10) + k % 10 := by
  rw [packedBcd, BitVec.toNat_ofNat]
  omega

/-- What `ADC` computes from two packed BCD bytes (R171). -/
def bcdSum (x y : Nat) (cin : Bool) : Alu := add8 (packedBcd x) (packedBcd y) cin

/-- What `SBC` computes from two packed BCD bytes (R177). -/
def bcdDifference (x y : Nat) (cin : Bool) : Alu := sub8 (packedBcd x) (packedBcd y) cin

/-- A sum that left A together with its carry: `DAA` sees a carry exactly when the sum is above 0x99. -/
theorem daaCarry_ofNat (k : Nat) : daaCarry (BitVec.ofNat 8 k) false (decide (k > 0xFF)) = decide (k > 0x99) := by
  rw [Bool.eq_iff_iff]
  simp only [daaCarry, BitVec.toNat_ofNat, Bool.not_false, Bool.true_and, Bool.or_eq_true, decide_eq_true_eq]
  omega

/-- After an addition of packed BCD bytes, `DAA` sees a carry exactly when the decimal sum has one. -/
theorem daaCarry_bcdSum {x y : Nat} (hx : x < 100) (hy : y < 100) (cin : Bool) :
    daaCarry (bcdSum x y cin).res false (bcdSum x y cin).c = decide (x + y + cin.toNat ≥ 100) := by
  have hcin := cin.toNat_le
  rw [bcdSum, add8_eq, daaCarry_ofNat, packedBcd_toNat hx, packedBcd_toNat hy, decide_eq_decide]
  omega

/-- After an addition of packed BCD bytes, `DAA` corrects the low nibble exactly when the low digits have a carry. -/
theorem daaHalf_bcdSum {x y : Nat} (hx : x < 100) (hy : y < 100) (cin : Bool) :
    ((bcdSum x y cin).h || decide ((bcdSum x y cin).res.toNat % 16 > 9)) =
      decide (x % 10 + y % 10 + cin.toNat ≥ 10) := by
  rw [bcdSum, add8_eq, Bool.eq_iff_iff]
  simp only [packedBcd_toNat hx, packedBcd_toNat hy, BitVec.toNat_ofNat, Bool.or_eq_true, decide_eq_true_eq]
  omega

/-- `DAA` after an addition: each digit that has a carry is raised by the 6 its nibble has above a decimal digit. -/
theorem daa_bcdSum {x y : Nat} (hx : x < 100) (hy : y < 100) (cin : Bool) :
    daa (bcdSum x y cin).res false (bcdSum x y cin).h (bcdSum x y cin).c =
      (packedBcd ((x + y + cin.toNat) % 100), decide (x + y + cin.toNat ≥ 100)) := by
  have hcin := cin.toNat_le
  rw [daa_eq, daaAdjusted, daaCarry_bcdSum hx hy, daaHalf_bcdSum hx hy, bcdSum, add8_eq]
  simp only [Bool.false_eq_true, if_false, decide_eq_true_eq, Prod.mk.injEq, and_true]
  apply BitVec.eq_of_toNat_eq
  rw [packedBcd_toNat (Nat.mod_lt _ (by decide)), BitVec.toNat_ofInt, BitVec.toNat_ofNat, packedBcd_toNat hx,
    packedBcd_toNat hy]
  split <;> split <;> omega

/-- A subtraction of packed BCD bytes borrows exactly when the decimal one does. -/
theorem bcdDifference_c {x y : Nat} (hx : x < 100) (hy : y < 100) (cin : Bool) :
    (bcdDifference x y cin).c = decide (x < y + cin.toNat) := by
  have hcin := cin.toNat_le
  rw [bcdDifference, sub8_eq, packedBcd_toNat hx, packedBcd_toNat hy, decide_eq_decide]
  omega

/-- A subtraction of packed BCD bytes borrows from the high nibble exactly when the low digits borrow. -/
theorem bcdDifference_h {x y : Nat} (hx : x < 100) (hy : y < 100) (cin : Bool) :
    (bcdDifference x y cin).h = decide (x % 10 < y % 10 + cin.toNat) := by
  rw [bcdDifference, sub8_eq, packedBcd_toNat hx, packedBcd_toNat hy, decide_eq_decide]
  omega

/-- `DAA` after a subtraction: each digit that borrows is lowered by the 6 its nibble has above a decimal digit. -/
theorem daa_bcdDifference {x y : Nat} (hx : x < 100) (hy : y < 100) (cin : Bool) :
    daa (bcdDifference x y cin).res true (bcdDifference x y cin).h (bcdDifference x y cin).c =
      (packedBcd ((x + 100 - y - cin.toNat) % 100), decide (x < y + cin.toNat)) := by
  have hcin := cin.toNat_le
  rw [daa_eq, daaAdjusted, bcdDifference_c hx hy, bcdDifference_h hx hy, bcdDifference, sub8_eq]
  simp only [daaCarry, if_true, Bool.not_true, Bool.false_and, Bool.or_false, decide_eq_true_eq, Prod.mk.injEq, and_true]
  apply BitVec.eq_of_toNat_eq
  rw [packedBcd_toNat (Nat.mod_lt _ (by decide)), BitVec.toNat_ofInt, BitVec.toNat_ofInt, packedBcd_toNat hx,
    packedBcd_toNat hy]
  split <;> split <;> omega

/-- `DAA` after an accumulator operation reads that operation's result and flags. -/
theorem decimalAdjust_aluByte {op : AluOp} (hop : op ≠ .cp) (v : Byte) (s : State) (n : Nat) :
    let r := aluCompute op s.a v s.flagC
    let u := decimalAdjust ((aluByte op v s).setCycles n)
    (u.a, u.flagC) = daa r.res r.n r.h r.c := by
  simp [decimalAdjust, aluByte, hop, State.flagN, State.flagH, State.flagC]

end Sys2Proof.Machine

namespace Sys2Proof

open Machine

/-- `INC` in its two operand forms (R192, R193). -/
theorem exec_incOf (o : Opnd) (s : State) :
    exec (Instr.incOf o) s = done (if o = .indHl then 12 else 4) (incOperand o s) := by
  refine (exec_toInstr (.inc o) s).trans ?_
  cases o <;> rfl

/-- `DEC` in its two operand forms (R194, R195). -/
theorem exec_decOf (o : Opnd) (s : State) :
    exec (Instr.decOf o) s = done (if o = .indHl then 12 else 4) (decOperand o s) := by
  refine (exec_toInstr (.dec o) s).trans ?_
  cases o <;> rfl

/-- The two forms of an accumulator operation, on a register or the byte at HL and on an immediate, from what it leaves for
every operand byte (R168 to R191). -/
theorem alu_forms {op : AluOp} {s : State} {after : Byte → Nat → State}
    (hafter : ∀ (v : Byte) (cycles : Nat), done cycles (aluByte op v s) = .next (after v cycles))
    (o : Opnd) (n : Byte) (rest : List Byte) :
    (decode (opcodeByte 2 op.code o.code :: rest) = .ok (Instr.aluOf op o, rest) ∧
      exec (Instr.aluOf op o) s = .next (after (s.read8 o) (if o = .indHl then 8 else 4))) ∧
    (decode (opcodeByte 3 op.code 6 :: n :: rest) = .ok (Instr.aluNOf op n, rest) ∧
      exec (Instr.aluNOf op n) s = .next (after n 8)) :=
  ⟨⟨decode_form_encode (.alu op o) nofun rest, (exec_aluOf op o s).trans (hafter _ _)⟩,
    decode_form_encode (.aluN op n) nofun rest, (exec_toInstr (.aluN op n) s).trans (hafter _ _)⟩

/-- Settles O45: both operations are `add8` (`done_aluByte_of_add8`), ADD with no carry-in. -/
theorem additions : Obligations.Additions := by
  unfold Obligations.Additions
  intro s rest o n
  obtain ⟨hadd, haddN⟩ :=
    alu_forms (fun _ => done_aluByte_of_add8 (op := .add) (s := s) (cin := false) nofun rfl) o n rest
  obtain ⟨hadc, hadcN⟩ :=
    alu_forms (fun _ => done_aluByte_of_add8 (op := .adc) (s := s) (cin := s.flagC) nofun rfl) o n rest
  exact ⟨hadd, haddN, hadc, hadcN⟩

/-- Settles O46: the three operations are `sub8` (`done_aluByte_of_sub8`), SUB and CP with no borrow-in; CP drops the
difference. -/
theorem subtractions : Obligations.Subtractions := by
  unfold Obligations.Subtractions
  intro s rest o n
  obtain ⟨hsub, hsubN⟩ := alu_forms (fun _ => done_aluByte_of_sub8 (op := .sub) (s := s) (cin := false) rfl) o n rest
  obtain ⟨hsbc, hsbcN⟩ := alu_forms (fun _ => done_aluByte_of_sub8 (op := .sbc) (s := s) (cin := s.flagC) rfl) o n rest
  obtain ⟨hcp, hcpN⟩ := alu_forms (fun _ => done_aluByte_of_sub8 (op := .cp) (s := s) (cin := false) rfl) o n rest
  exact ⟨hsub, hsubN, hsbc, hsbcN, hcp, hcpN⟩

/-- Settles O47: the three operations are `logic8` (`done_aluByte_of_logic8`), AND alone with H. -/
theorem logicalOperations : Obligations.LogicalOperations := by
  unfold Obligations.LogicalOperations
  intro s rest o n
  obtain ⟨hand, handN⟩ := alu_forms (fun _ => done_aluByte_of_logic8 (op := .and) (s := s) nofun rfl) o n rest
  obtain ⟨hxor, hxorN⟩ := alu_forms (fun _ => done_aluByte_of_logic8 (op := .xor) (s := s) nofun rfl) o n rest
  obtain ⟨hor, horN⟩ := alu_forms (fun _ => done_aluByte_of_logic8 (op := .or) (s := s) nofun rfl) o n rest
  exact ⟨hand, handN, hxor, hxorN, hor, horN⟩

/-- Settles O48: `incOperand_eq` and `decOperand_eq` give the results and flags in numbers. -/
theorem incrementsAndDecrements : Obligations.IncrementsAndDecrements := by
  unfold Obligations.IncrementsAndDecrements
  intro s rest o
  refine ⟨⟨?_, ?_⟩, ?_, ?_⟩
  · have hop : BitVec.ofNat 8 (0x04 + 8 * o.code) = opcodeByte 0 o.code 4 := ofNat_add_middleField 0 o.code 4
    rw [hop]
    exact decode_form_encode (.inc o) nofun rest
  · rw [exec_incOf, incOperand_eq]
    rfl
  · have hop : BitVec.ofNat 8 (0x05 + 8 * o.code) = opcodeByte 0 o.code 5 := ofNat_add_middleField 0 o.code 5
    rw [hop]
    exact decode_form_encode (.dec o) nofun rest
  · rw [exec_decOf, decOperand_eq]
    rfl

/-- Settles O49: DAA is `decimalAdjust_eq`; CPL, SCF and CCF are flag lines (`setFlags_eq`). -/
theorem decimalAdjustAndFlags : Obligations.DecimalAdjustAndFlags := by
  unfold Obligations.DecimalAdjustAndFlags
  intro s rest
  refine ⟨⟨decode_of_op rfl rest, (exec_toInstr .daa s).trans ?_⟩, ⟨decode_of_op rfl rest, (exec_toInstr .cpl s).trans ?_⟩,
    ⟨decode_of_op rfl rest, (exec_toInstr .scf s).trans ?_⟩, ⟨decode_of_op rfl rest, (exec_toInstr .ccf s).trans ?_⟩⟩
  · rw [Form.run, decimalAdjust_eq]
    rfl
  · rw [Form.run, complementA, setFlags_eq]
    rfl
  · rw [Form.run, setCarry, setFlags_eq]
    rfl
  · rw [Form.run, complementCarry, setFlags_eq]
    rfl

/-- What an accumulator operation with B and then `DAA` leave in A and C. -/
theorem aluOf_b_then_daa {op : AluOp} (hop : op ≠ .cp) {s t u : State} (ht : exec (Instr.aluOf op (.reg .b)) s = .next t)
    (hu : exec .daa t = .next u) :
    let r := aluCompute op s.a s.b s.flagC
    (u.a, u.flagC) = daa r.res r.n r.h r.c := by
  rw [exec_aluOf] at ht
  rw [done_inj _ _ _ ht] at hu
  rw [done_inj _ _ _ hu]
  exact decimalAdjust_aluByte hop s.b s 4

/-- Settles O50: `DAA` reads what ADC or SBC left (`aluOf_b_then_daa`), and from packed BCD bytes that is corrected to the
decimal result (`daa_bcdSum`, `daa_bcdDifference`). -/
theorem decimalAdjustGivesBcd : Obligations.DecimalAdjustGivesBcd := by
  unfold Obligations.DecimalAdjustGivesBcd
  intro s t u x y hx hy bcd cin ha hb
  refine ⟨fun ht hu => Prod.mk.inj ?_, fun ht hu => Prod.mk.inj ?_⟩
  · refine (aluOf_b_then_daa (op := .adc) nofun ht hu).trans ?_
    rw [ha, hb]
    exact daa_bcdSum hx hy s.flagC
  · refine (aluOf_b_then_daa (op := .sbc) nofun ht hu).trans ?_
    rw [ha, hb]
    exact daa_bcdDifference hx hy s.flagC

end Sys2Proof
end

section
/-! PROOFS. The family 43_alu16: `ADD HL,rr`, `INC rr` and `DEC rr`, each read from its slot of the primary table and run as
its pattern line by `exec_toInstr`, with the results and flags in numbers (R210 to R212). -/

namespace Sys2Proof.Machine

/-! ### Pairs in numbers (R210 to R212) -/

/-- The half carry in numbers: the low twelve bits of both words (R210). -/
theorem half16_eq (v w : Word) : half16 v w = decide (v.toNat % 4096 + w.toNat % 4096 > 0xFFF) := by
  have hlow (u : Word) : (u &&& 0x0FFF).toNat = u.toNat % 4096 := by
    rw [BitVec.toNat_and]
    exact Nat.and_two_pow_sub_one_eq_mod _ 12
  rw [half16, hlow, hlow]

/-- HL takes the sum and F its carries, with Z as it was; nothing else is written (R210). -/
theorem addHlPair_eq (rr : Pair) (s : State) :
    addHlPair rr s =
      { s.setHl (BitVec.ofNat 16 (s.hl.toNat + (s.pair rr).toNat)) with
        f := flagByte s.flagZ false (decide (s.hl.toNat % 4096 + (s.pair rr).toNat % 4096 > 0xFFF))
          (decide (s.hl.toNat + (s.pair rr).toNat > 0xFFFF)) } := by
  rw [addHlPair, setFlags_eq, BitVec.add_def, half16_eq, carry16]

theorem incPair_eq (rr : Pair) (s : State) :
    incPair rr s = s.setPair rr (BitVec.ofNat 16 ((s.pair rr).toNat + 1)) := by
  rw [incPair, BitVec.add_def]
  rfl

/-- Taking one away is adding 0xFFFF, modulo 0x10000 (R212). -/
theorem decPair_eq (rr : Pair) (s : State) :
    decPair rr s = s.setPair rr (BitVec.ofNat 16 ((s.pair rr).toNat + 0xFFFF)) := by
  rw [decPair, BitVec.sub_eq_add_neg, BitVec.add_def]
  rfl

end Sys2Proof.Machine

namespace Sys2Proof

open Machine

/-- Settles O51: each pattern line names its pair by the opcode's bits 5 and 4, and `addHlPair_eq`, `incPair_eq` and
`decPair_eq` give its result in numbers. -/
theorem pairArithmetic : Obligations.PairArithmetic := by
  unfold Obligations.PairArithmetic
  intro s rest rr
  refine ⟨⟨?_, (exec_toInstr (.addHl rr) s).trans ?_⟩, ⟨?_, (exec_toInstr (.incPair rr) s).trans ?_⟩,
    ⟨?_, (exec_toInstr (.decPair rr) s).trans ?_⟩⟩
  · cases rr <;> exact decode_of_op rfl rest
  · rw [Form.run, addHlPair_eq]
    rfl
  · cases rr <;> exact decode_of_op rfl rest
  · rw [Form.run, incPair_eq]
    rfl
  · cases rr <;> exact decode_of_op rfl rest
  · rw [Form.run, decPair_eq]
    rfl

end Sys2Proof
end

section
/-! PROOFS. The family 44_rotate_bit: the rotates, shifts and bit operations, each read from its opcode by its slot of the
primary table or the extended table's fields (`extendedTableByFields`), with the results and flags in numbers: those of the
rotates and shifts by `rotCompute_eq` (R220 to R240), those of the bit operations by the byte's split at one bit (R241 to
R246). -/

namespace Sys2Proof.Machine

/-! ### Rotates and shifts (R220 to R240) -/

/-- An accumulator rotate leaves the rotated byte in A and the carry alone in F (R220 to R223). -/
theorem done_rotAcc {op : RotOp} {s : State} {res : Nat} {carry : Bool}
    (hrot : rotCompute op s.a s.flagC = (BitVec.ofNat 8 res, carry)) (cycles : Nat) :
    done cycles (rotAcc op s) = .next
      { s with a := BitVec.ofNat 8 res, f := flagByte false false false carry, cycles := cycles } := by
  simp only [done_eq, rotAcc, setFlags_eq, hrot]

/-- A rotate or shift of an operand writes the result back, with Z from it (R225 to R240). -/
theorem done_rotOperand {op : RotOp} {s : State} {o : Opnd} {res : Nat} {carry : Bool}
    (hrot : rotCompute op (s.read8 o) s.flagC = (BitVec.ofNat 8 res, carry)) (hres : res < 256) (cycles : Nat) :
    done cycles (rotOperand op o s) = .next
      { s.write8 o (BitVec.ofNat 8 res) with
        f := flagByte (decide (res = 0)) false false carry, cycles := cycles } := by
  have hzero : (BitVec.ofNat 8 res == 0) = decide (res = 0) := by
    exact (ofNat_beq_zero res).trans (by rw [Nat.mod_eq_of_lt hres])
  simp only [done_eq, rotOperand, setFlags_eq, hrot, hzero]

/-! ### One bit of a byte in numbers (R241 to R246) -/

theorem bitMask_toNat (b : Idx3) : (1#8 <<< b.toNat).toNat = 2 ^ b.toNat := by
  cases b <;> rfl

/-- The bit a mask selects, in place. -/
theorem and_bitMask_toNat (v : Byte) (b : Idx3) :
    (v &&& 1#8 <<< b.toNat).toNat = 2 ^ b.toNat * (v.toNat / 2 ^ b.toNat % 2) := by
  rw [BitVec.toNat_and, bitMask_toNat, Nat.and_two_pow, Nat.toNat_testBit, Nat.mul_comm]

/-- Two bytes without a common bit join to their sum. -/
theorem or_toNat_of_and_eq_zero {v w : Byte} (h : v &&& w = 0#8) : (v ||| w).toNat = v.toNat + w.toNat := by
  rw [← BitVec.add_eq_or_of_and_eq_zero v w h, BitVec.toNat_add_of_and_eq_zero h]

theorem and_not_and_mask (v m : Byte) : (v &&& ~~~m) &&& m = 0#8 := by
  rw [BitVec.and_assoc, BitVec.and_comm (~~~m), BitVec.and_not_self]
  exact BitVec.and_zero

/-- A byte is its bits outside a mask plus its bits inside. -/
theorem toNat_eq_outside_add_inside (v m : Byte) : v.toNat = (v &&& ~~~m).toNat + (v &&& m).toNat := by
  have hdisjoint : (v &&& ~~~m) &&& (v &&& m) = 0#8 := by
    rw [BitVec.and_comm v m, ← BitVec.and_assoc, and_not_and_mask, BitVec.zero_and]
  have hjoin : (v &&& ~~~m) ||| (v &&& m) = v := by
    rw [← BitVec.and_or_distrib_left, BitVec.or_comm, BitVec.or_not_self, BitVec.and_allOnes]
  rw [← or_toNat_of_and_eq_zero hdisjoint, hjoin]

/-- A byte with the bits of a mask set is its bits outside the mask plus the mask. -/
theorem or_mask_toNat (v m : Byte) : (v ||| m).toNat = (v &&& ~~~m).toNat + m.toNat := by
  have hjoin : (v &&& ~~~m) ||| m = v ||| m := by
    ext i
    simp only [BitVec.getElem_or, BitVec.getElem_and, BitVec.getElem_not, Bool.or_and_distrib_right, Bool.not_or_self,
      Bool.and_true]
  rw [← or_toNat_of_and_eq_zero (and_not_and_mask v m), hjoin]

/-- A bit cleared is its weight taken away where it is 1 (R243, R244). -/
theorem and_not_bitMask_toNat (v : Byte) (b : Idx3) :
    (v &&& ~~~(1#8 <<< b.toNat)).toNat = v.toNat - 2 ^ b.toNat * (v.toNat / 2 ^ b.toNat % 2) := by
  have hsplit := toNat_eq_outside_add_inside v (1#8 <<< b.toNat)
  rw [and_bitMask_toNat] at hsplit
  exact Nat.eq_sub_of_add_eq hsplit.symm

/-- A bit set is its weight added where it is 0 (R245, R246). -/
theorem or_bitMask_toNat (v : Byte) (b : Idx3) :
    (v ||| 1#8 <<< b.toNat).toNat = v.toNat + 2 ^ b.toNat * (1 - v.toNat / 2 ^ b.toNat % 2) := by
  have hsplit := toNat_eq_outside_add_inside v (1#8 <<< b.toNat)
  rw [and_bitMask_toNat] at hsplit
  rw [or_mask_toNat, bitMask_toNat]
  rcases Nat.mod_two_eq_zero_or_one (v.toNat / 2 ^ b.toNat) with hbit | hbit <;> rw [hbit] at hsplit ⊢ <;> omega

/-! ### Bit operations (R241 to R246) -/

theorem bitTest_eq (b : Idx3) (o : Opnd) (s : State) :
    bitTest b o s =
      { s with f := flagByte (decide ((s.read8 o).toNat / 2 ^ b.toNat % 2 = 0)) false true s.flagC } := by
  have hzero : (!(s.read8 o).getLsbD b.toNat) = decide ((s.read8 o).toNat / 2 ^ b.toNat % 2 = 0) := by
    rw [BitVec.getLsbD, Nat.testBit_eq_decide_div_mod_eq, ← decide_not, decide_eq_decide]
    exact Nat.mod_two_ne_one
  rw [bitTest, setFlags_eq, hzero]

theorem bitReset_eq (b : Idx3) (o : Opnd) (s : State) :
    bitReset b o s = s.write8 o
      (BitVec.ofNat 8 ((s.read8 o).toNat - 2 ^ b.toNat * ((s.read8 o).toNat / 2 ^ b.toNat % 2))) := by
  rw [bitReset, ← and_not_bitMask_toNat, BitVec.ofNat_toNat, BitVec.setWidth_eq]

theorem bitSet_eq (b : Idx3) (o : Opnd) (s : State) :
    bitSet b o s = s.write8 o
      (BitVec.ofNat 8 ((s.read8 o).toNat + 2 ^ b.toNat * (1 - (s.read8 o).toNat / 2 ^ b.toNat % 2))) := by
  rw [bitSet, ← or_bitMask_toNat, BitVec.ofNat_toNat, BitVec.setWidth_eq]

end Sys2Proof.Machine

namespace Sys2Proof

open Machine

/-- Settles O52: the four rotates are `rotAcc` (`done_rotAcc`), whose result and carry in numbers `rotCompute_eq` gives. -/
theorem accumulatorRotates : Obligations.AccumulatorRotates := by
  unfold Obligations.AccumulatorRotates
  intro s rest
  exact ⟨⟨decode_of_op rfl rest, (exec_toInstr .rlca s).trans (done_rotAcc (rotCompute_eq .rlc s.a s.flagC) 4)⟩,
    ⟨decode_of_op rfl rest, (exec_toInstr .rrca s).trans (done_rotAcc (rotCompute_eq .rrc s.a s.flagC) 4)⟩,
    ⟨decode_of_op rfl rest, (exec_toInstr .rla s).trans (done_rotAcc (rotCompute_eq .rl s.a s.flagC) 4)⟩,
    ⟨decode_of_op rfl rest, (exec_toInstr .rra s).trans (done_rotAcc (rotCompute_eq .rr s.a s.flagC) 4)⟩⟩

/-- A rotate or shift of the extended table, from its result and carry in numbers (R225 to R240). -/
theorem rot_form {op : RotOp} {s : State} {o : Opnd} {res : Nat} {carry : Bool}
    (hrot : rotCompute op (s.read8 o) s.flagC = (BitVec.ofNat 8 res, carry)) (hres : res < 256) (rest : List Byte) :
    decode (0xCB :: BitVec.ofNat 8 (8 * op.code + o.code) :: rest) = .ok (Instr.rotOf op o, rest) ∧
      exec (Instr.rotOf op o) s = .next
        { s.write8 o (BitVec.ofNat 8 res) with
          f := flagByte (decide (res = 0)) false false carry, cycles := if o = .indHl then 16 else 8 } :=
  ⟨(extendedTableByFields op .i0 o rest).1, (exec_rotOf op o s).trans (done_rotOperand hrot hres _)⟩

/-- Settles O53: the four rotates by `rot_form`, each with a result below 0x100. -/
theorem extendedRotates : Obligations.ExtendedRotates := by
  unfold Obligations.ExtendedRotates
  intro s rest o v c
  have hv : v < 256 := (s.read8 o).isLt
  have hc : c ≤ 1 := s.flagC.toNat_le
  exact ⟨rot_form (rotCompute_eq .rlc _ _) (by omega) rest, rot_form (rotCompute_eq .rrc _ _) (by omega) rest,
    rot_form (rotCompute_eq .rl _ _) (by omega) rest, rot_form (rotCompute_eq .rr _ _) (by omega) rest⟩

/-- Settles O54: the three shifts and SWAP by `rot_form`, each with a result below 0x100. -/
theorem shiftsAndSwap : Obligations.ShiftsAndSwap := by
  unfold Obligations.ShiftsAndSwap
  intro s rest o v
  have hv : v < 256 := (s.read8 o).isLt
  exact ⟨rot_form (rotCompute_eq .sla _ _) (by omega) rest, rot_form (rotCompute_eq .sra _ _) (by omega) rest,
    rot_form (rotCompute_eq .swap _ _) (by omega) rest, rot_form (rotCompute_eq .srl _ _) (by omega) rest⟩

/-- The number of a bit index is its field code (R106). -/
theorem Idx3.toNat_eq_code (b : Idx3) : b.toNat = b.code := by
  cases b <;> rfl

/-- Settles O55: the opcodes are the extended table's bit fields, and `bitTest_eq`, `bitReset_eq` and `bitSet_eq` give the
flag and the results in numbers. -/
theorem bitTestResetAndSet : Obligations.BitTestResetAndSet := by
  unfold Obligations.BitTestResetAndSet
  intro s rest b o
  obtain ⟨-, hbit, hres, hset⟩ := extendedTableByFields .rlc b o rest
  rw [← Idx3.toNat_eq_code] at hbit hres hset
  refine ⟨⟨hbit, (exec_bitOf b o s).trans ?_⟩, ⟨hres, (exec_resOf b o s).trans ?_⟩, ⟨hset, (exec_setOf b o s).trans ?_⟩⟩
  · rw [bitTest_eq]
    rfl
  · rw [bitReset_eq]
    rfl
  · rw [bitSet_eq]
    rfl

end Sys2Proof
end

section
/-! PROOFS. The family 45_control: jumps, calls, returns and restarts, each read from its opcode by its slot of the
primary table and run as its pattern line by `exec_toInstr`, the conditional ones by `branch_eq` (R250 to R261). -/

namespace Sys2Proof.Machine

/-! ### Calls and returns as one record update (R256 to R261) -/

/-- A call: the two bytes of the return address are stored below SP, SP is lowered by two, and PC takes the target
(R256, R261). -/
theorem call_eq (target : Word) (s : State) :
    call target s =
      { (s.busWrite (s.sp - 1) s.pc.hiByte).busWrite (s.sp - 2) s.pc.loByte with sp := s.sp - 2, pc := target } := by
  rw [call, push16_eq, State.setPc]

/-- A return from an interrupt handler: a return with the enable made at once (R260). -/
theorem retInterrupt_eq (s : State) :
    s.retInterrupt =
      { s with
        pc := Word.join (s.busRead (s.sp + 1)) (s.busRead s.sp), sp := s.sp + 2, ime := true, imePending := false } := by
  rw [State.retInterrupt, ret_eq]

end Sys2Proof.Machine

namespace Sys2Proof

open Machine

/-- Settles O56: a relative target is `add_sext_ofInt`, and a conditional jump acts exactly when its condition holds
(`branch_eq`). -/
theorem jumps : Obligations.Jumps := by
  unfold Obligations.Jumps
  intro s rest cc e lo hi nn near taken
  have hnn : nn = Word.join hi lo := join_ofNat hi lo
  have hnear : near = s.pc + e.sext := (add_sext_ofInt s.pc e).symm
  have htaken : taken = s.cond cc := by cases cc <;> rfl
  rw [hnn, hnear, htaken]
  refine ⟨⟨decode_of_opNN rfl lo hi rest, exec_toInstr (.jpNn (Word.join hi lo)) s⟩,
    ⟨?_, (exec_toInstr (.jpCc cc (Word.join hi lo)) s).trans (branch_eq cc 12 16 (·.setPc (Word.join hi lo)) s)⟩,
    ⟨decode_of_op rfl rest, exec_toInstr .jpHl s⟩,
    ⟨decode_of_opN rfl e rest, exec_toInstr (.jr e) s⟩,
    ⟨?_, (exec_toInstr (.jrCc cc e) s).trans (branch_eq cc 8 12 _ s)⟩⟩
  · cases cc <;> exact decode_of_opNN rfl lo hi rest
  · cases cc <;> exact decode_of_opN rfl e rest

/-- Settles O57: a call is two bus writes and a jump (`call_eq`), a return two bus reads (`ret_eq`, `retInterrupt_eq`),
and the conditional forms act exactly when their condition holds (`branch_eq`). -/
theorem callsAndReturns : Obligations.CallsAndReturns := by
  unfold Obligations.CallsAndReturns
  intro s rest cc t lo hi nn pushed back taken
  have hnn : nn = Word.join hi lo := join_ofNat hi lo
  have hback : back = Word.join (s.busRead (s.sp + 1)) (s.busRead s.sp) := join_ofNat _ _
  have htaken : taken = s.cond cc := by cases cc <;> rfl
  rw [hnn, hback, htaken]
  refine ⟨⟨decode_of_opNN rfl lo hi rest, (exec_toInstr (.callNn (Word.join hi lo)) s).trans ?_⟩,
    ⟨?_, (exec_toInstr (.callCc cc (Word.join hi lo)) s).trans ((branch_eq cc 12 24 _ s).trans ?_)⟩,
    ⟨decode_of_op rfl rest, (exec_toInstr .ret s).trans ?_⟩,
    ⟨?_, (exec_toInstr (.retCc cc) s).trans ((branch_eq cc 8 20 _ s).trans ?_)⟩,
    ⟨decode_of_op rfl rest, (exec_toInstr .reti s).trans ?_⟩,
    ⟨?_, (exec_toInstr (.rst t) s).trans ?_⟩⟩
  · exact congrArg (done 24) (call_eq _ s)
  · cases cc <;> exact decode_of_opNN rfl lo hi rest
  · rw [call_eq]
    rfl
  · exact congrArg (done 16) (ret_eq s)
  · cases cc <;> exact decode_of_op rfl rest
  · rw [ret_eq]
    rfl
  · exact congrArg (done 16) (retInterrupt_eq s)
  · cases t <;> exact decode_of_op rfl rest
  · exact congrArg (done 16) (call_eq t.rstTarget s)

end Sys2Proof
end

section
/-! PROOFS. The family 46_system: NOP, HALT, STOP, DI, EI and the illegal opcodes, each read from its slot of the primary
table and run as its pattern line by `exec_toInstr` (R270 to R275, R110); and the bare prefix, whose second byte's fields
name one extended pattern line, the one its slot of the extended table holds (R276, R109). -/

namespace Sys2Proof

open Machine

/-! ### The engine's own instructions (R270 to R275, R110) -/

/-- HALT with IME clear and something pending: the halt bug is armed and the engine keeps running (R271). -/
theorem halt_of_bug {s : State} (hime : s.ime = false) (hp : s.pending ≠ 0) : halt s = { s with haltBug := true } :=
  if_pos ⟨hime, hp⟩

/-- HALT otherwise enters Halted (R271). -/
theorem halt_of_no_bug {s : State} (h : s.ime = true ∨ s.pending = 0) : halt s = { s with mode := .halted } := by
  refine if_neg ?_
  rintro ⟨hime, hp⟩
  rcases h with h | h
  · rw [hime] at h
    cases h
  · exact hp h

/-- Settles O58: each opcode's slot of the primary table names its instruction, whose pattern line `exec_toInstr` runs; the
two outcomes of HALT are `halt_of_bug` and `halt_of_no_bug`. -/
theorem engineInstructions : Obligations.EngineInstructions := by
  unfold Obligations.EngineInstructions
  intro s rest n
  refine ⟨decode_of_op rfl rest, decode_of_op rfl rest, decode_of_opN rfl n rest, decode_of_op rfl rest,
    decode_of_op rfl rest, decode_of_op rfl rest, decode_of_op rfl rest, decode_of_op rfl rest, decode_of_op rfl rest,
    decode_of_op rfl rest, decode_of_op rfl rest, decode_of_op rfl rest, decode_of_op rfl rest, decode_of_op rfl rest,
    decode_of_op rfl rest, decode_of_op rfl rest, exec_toInstr .nop s, fun hime hp => ?_, fun h => ?_,
    exec_toInstr (.stop n) s, exec_toInstr .di s, exec_toInstr .ei s, fun x => exec_toInstr (.illegal x) s⟩
  · exact (exec_toInstr .halt s).trans (congrArg (done 4) (halt_of_bug hime hp))
  · exact (exec_toInstr .halt s).trans (congrArg (done 4) (halt_of_no_bug h))

/-! ### The fields of an extended opcode (R102, R103, R106, R224) -/

theorem Opnd.code_ofField (z : BitVec 3) : (Opnd.ofField z).code = z.toNat := by
  revert z
  decide

theorem Idx3.code_ofField (y : BitVec 3) : (Idx3.ofField y).code = y.toNat := by
  revert y
  decide

theorem RotOp.code_ofField (y : BitVec 3) : (RotOp.ofField y).code = y.toNat := by
  revert y
  decide

/-- A byte from its fields `xx yyy zzz` (R102). -/
theorem opcodeByte_fields (op : Byte) :
    opcodeByte (op.extractLsb' 6 2).toNat (op.extractLsb' 3 3).toNat (op.extractLsb' 0 3).toNat = op := by
  apply BitVec.eq_of_toNat_eq
  have hlt := op.isLt
  simp only [opcodeByte, BitVec.toNat_ofNat, BitVec.extractLsb'_toNat, Nat.shiftRight_eq_div_pow]
  omega

theorem quadrant_cases (x : BitVec 2) : x = 0 ∨ x = 1 ∨ x = 2 ∨ x = 3 := by
  revert x
  decide

/-! ### The pattern line those fields name (R109, R276) -/

/-- The extended pattern line of the fields `xx yyy zzz` (R109). -/
def formOfFields (x : BitVec 2) (y z : BitVec 3) : Form :=
  if x = 0 then .rot (RotOp.ofField y) (Opnd.ofField z)
  else if x = 1 then .bit (Idx3.ofField y) (Opnd.ofField z)
  else if x = 2 then .res (Idx3.ofField y) (Opnd.ofField z)
  else .set (Idx3.ofField y) (Opnd.ofField z)

/-- The extended pattern line of a second opcode byte. -/
def extendedForm (op2 : Byte) : Form :=
  formOfFields (op2.extractLsb' 6 2) (op2.extractLsb' 3 3) (op2.extractLsb' 0 3)

/-- What `runExtended` does is the meaning of that pattern line. -/
theorem runExtended_eq_run (op2 : Byte) (s : State) : runExtended op2 s = (extendedForm op2).run s := by
  unfold runExtended extendedForm
  obtain hx | hx | hx | hx := quadrant_cases (op2.extractLsb' 6 2) <;> rw [hx] <;> rfl

theorem encode_formOfFields (x : BitVec 2) (y z : BitVec 3) :
    (formOfFields x y z).encode = extendedBytes x.toNat y.toNat z.toNat := by
  obtain rfl | rfl | rfl | rfl := quadrant_cases x
  · exact congrArg₂ (extendedBytes 0) (RotOp.code_ofField y) (Opnd.code_ofField z)
  · exact congrArg₂ (extendedBytes 1) (Idx3.code_ofField y) (Opnd.code_ofField z)
  · exact congrArg₂ (extendedBytes 2) (Idx3.code_ofField y) (Opnd.code_ofField z)
  · exact congrArg₂ (extendedBytes 3) (Idx3.code_ofField y) (Opnd.code_ofField z)

theorem encode_extendedForm (op2 : Byte) : (extendedForm op2).encode = [0xCB, op2] := by
  rw [extendedForm, encode_formOfFields, extendedBytes, opcodeByte_fields]
  rfl

theorem extendedForm_ne_prefixCb (op2 : Byte) : extendedForm op2 ≠ .prefixCb := by
  intro h
  have hbytes := encode_extendedForm op2
  rw [h] at hbytes
  cases hbytes

/-- The slot of the extended table holds the instruction of that pattern line: the decoder reads both from the same two
bytes. -/
theorem extendedInstr_eq_toInstr (op2 : Byte) : extendedInstr op2 = (extendedForm op2).toInstr := by
  have hread := decode_form_encode (extendedForm op2) (extendedForm_ne_prefixCb op2) []
  rw [encode_extendedForm] at hread
  have hslot : decode [0xCB, op2] = .ok (extendedInstr op2, []) := decode_of_cb rfl op2 []
  exact congrArg Prod.fst (Except.ok.inj (hslot.symm.trans hread))

/-- What `runExtended` does is the meaning of the extended table's instruction (R276). -/
theorem runExtended_eq_exec (op2 : Byte) (s : State) : runExtended op2 s = exec (extendedInstr op2) s := by
  rw [runExtended_eq_run, extendedInstr_eq_toInstr, exec_toInstr]

/-- The prefix fetches its second byte at PC and runs the extended table's entry for it (R276). -/
theorem exec_prefixCb (s : State) :
    exec .prefixCb s = runExtended (s.busRead s.pc) { s with pc := s.pc + 1 } := rfl

/-! ### What an extended instruction keeps and its count (R34, R340) -/

theorem sp_notMem_piece (o : Opnd) : Piece.sp ∉ o.piece := by
  cases o <;> simp [Opnd.piece]

theorem modifyCycles_cases (o : Opnd) : modifyCycles o = 8 ∨ modifyCycles o = 12 ∨ modifyCycles o = 16 := by
  cases o <;> simp [modifyCycles]

theorem testCycles_cases (o : Opnd) : testCycles o = 8 ∨ testCycles o = 12 ∨ testCycles o = 16 := by
  cases o <;> simp [testCycles]

/-- `r` goes on from `s` with PC and SP kept and the count of an extended instruction. -/
def RunsInPlace (s : State) (r : Result) : Prop :=
  ∃ t : State, r = .next t ∧ t.pc = s.pc ∧ t.sp = s.sp ∧ (t.cycles = 8 ∨ t.cycles = 12 ∨ t.cycles = 16)

theorem runsInPlace_of_effect {ws : List Piece} {as : List Word} {s u : State} {n : Nat}
    (e : Effect ws false as s u) (hsp : .sp ∉ ws) (hn : n = 8 ∨ n = 12 ∨ n = 16) : RunsInPlace s (done n u) :=
  ⟨_, rfl, e.pc rfl, e.piece .sp hsp, hn⟩

theorem bitTest_effect (b : Idx3) (o : Opnd) (s : State) :
    Effect [.flagZ, .flagN, .flagH] false [] s (bitTest b o s) :=
  (Effect.refl [] false s).setFlags (hc := .inr rfl)

theorem formOfFields_runsInPlace (x : BitVec 2) (y z : BitVec 3) (s : State) :
    RunsInPlace s ((formOfFields x y z).run s) := by
  have hsp := sp_notMem_piece (Opnd.ofField z)
  obtain rfl | rfl | rfl | rfl := quadrant_cases x
  · exact runsInPlace_of_effect (rotOperand_effect (RotOp.ofField y) _ s) (by simp [hsp]) (modifyCycles_cases _)
  · exact runsInPlace_of_effect (bitTest_effect (Idx3.ofField y) _ s) (by simp) (testCycles_cases _)
  · exact runsInPlace_of_effect (write8_effect s _ _) hsp (modifyCycles_cases _)
  · exact runsInPlace_of_effect (write8_effect s _ _) hsp (modifyCycles_cases _)

/-- Settles O59: what the prefix runs (`exec_prefixCb`) is the meaning of the second byte's slot (`runExtended_eq_exec`) and of
a pattern line that keeps PC and SP (`formOfFields_runsInPlace`). -/
theorem prefixRunsExtendedTable : Obligations.PrefixRunsExtendedTable := by
  unfold Obligations.PrefixRunsExtendedTable
  refine ⟨rfl, fun op2 rest => decode_of_cb rfl op2 rest, fun s => ⟨?_, ?_⟩⟩
  · rw [exec_prefixCb, runExtended_eq_exec]
  · rw [exec_prefixCb, runExtended_eq_run]
    exact formOfFields_runsInPlace _ _ _ { s with pc := s.pc + 1 }

end Sys2Proof
end

section
/-! PROOFS. The family 60_exceptions: what a step is in each mode (R290, R293 to R295), the instruction it runs with and
without the halt bug (R291), the delayed enable (R292), and taking an interrupt (R296 to R298, R332). -/

namespace Sys2Proof.Machine

/-! ### No instruction and no step stops (R285) -/

theorem exec_next (i : Instr) (s : State) : ∃ t : State, exec i s = .next t := by
  rw [exec_eq_run]
  exact run_next i.form s

/-- Settles O14: every instruction runs its pattern line, which goes on (`run_next`), and so does every step. -/
theorem everyStepCompletes : Obligations.EveryStepCompletes := by
  unfold Obligations.EveryStepCompletes
  exact ⟨exec_next, step_next⟩

/-! ### The engine step, one equation per mode (R290, R293 to R295) -/

theorem engineStep_running {s : State} (hm : s.mode = .running) (wake : Bool) : s.engineStep wake = s.serve := by
  simp only [State.engineStep, hm]

theorem engineStep_stopped {s : State} (hm : s.mode = .stopped) (wake : Bool) :
    s.engineStep wake = if wake then ({ s with mode := .running } : State).serve else done Config.cyclesTick s := by
  simp only [State.engineStep, hm]

theorem engineStep_halted {s : State} (hm : s.mode = .halted) (wake : Bool) :
    s.engineStep wake =
      if s.pending = 0 then done Config.cyclesTick s else ({ s with mode := .running } : State).serve := by
  simp only [State.engineStep, hm]

theorem engineStep_locked {s : State} (hm : s.mode = .locked) (wake : Bool) :
    s.engineStep wake = done Config.cyclesTick s := by
  simp only [State.engineStep, hm]

/-- Settles O13: the equations of the Stopped and the Halted step; no other mode's equation names `wake`. -/
theorem waitsUntilWoken : Obligations.WaitsUntilWoken := by
  unfold Obligations.WaitsUntilWoken
  refine ⟨fun s0 hm hw => ?_, fun s0 hm hw => ?_, fun s0 hm hp => ?_, fun s0 hm hp => ?_, fun s wake hm => ?_⟩
  · rw [step, engineStep_stopped hm, hw]
    rfl
  · rw [step, engineStep_stopped hm, hw]
    rfl
  · rw [step, engineStep_halted hm, if_pos hp]
    rfl
  · rw [step, engineStep_halted hm, if_neg hp]
    rfl
  · cases hmode : s.mode with
    | stopped => exact absurd hmode hm
    | running => rw [engineStep_running hmode, engineStep_running hmode]
    | halted => rw [engineStep_halted hmode, engineStep_halted hmode]
    | locked => rw [engineStep_locked hmode, engineStep_locked hmode]

/-! ### Locked until reset (R295, R321) -/

/-- Moves that are no reset are bus writes, and leave the registers and the engine (R6, D31). -/
theorem applyMoves_snapshot (ms : List EnvMove) (s : State) (h : ∀ init : ResetInit, .reset init ∉ ms) :
    (s.applyMoves ms).snapshot = s.snapshot := by
  induction ms generalizing s with
  | nil => rfl
  | cons m ms ih =>
    have hm : ∀ init : ResetInit, m ≠ .reset init := fun init e => h init (e ▸ List.mem_cons_self)
    obtain ⟨a, v, -, hmove⟩ := applyMove_eq_busWrite s m hm
    rw [State.applyMoves, ih _ fun init hin => h init (List.mem_cons_of_mem m hin), hmove]
    rfl

theorem takeInput_snapshot (s : State)
    (h : ∀ (x : StepInput) (rest : List StepInput) (init : ResetInit), s.inputs = x :: rest → .reset init ∉ x.moves) :
    s.takeInput.2.snapshot = s.snapshot := by
  unfold State.takeInput
  cases hin : s.inputs with
  | nil => rfl
  | cons x rest => exact applyMoves_snapshot x.moves _ fun init => h x rest init hin

theorem step_of_locked {s0 : State} (hm : s0.takeInput.2.mode = .locked) :
    step s0 = .next { s0.takeInput.2 with cycles := 4 } :=
  engineStep_locked hm _

/-- Settles O12: a Locked step is a tick, and without a reset the outside leaves the mode Locked (`takeInput_snapshot`). -/
theorem lockedUntilReset : Obligations.LockedUntilReset := by
  unfold Obligations.LockedUntilReset
  refine ⟨fun s0 hm => step_of_locked hm, fun s0 t hm hmoves h => ?_⟩
  have hsnap := takeInput_snapshot s0 hmoves
  have hlocked : s0.takeInput.2.mode = .locked := (congrArg Snapshot.mode hsnap).trans hm
  rw [step_of_locked hlocked] at h
  cases h
  exact hsnap

/-! ### The instruction a step runs (R101, R290, R291) -/

theorem fetchOpcode_of_noBug {s : State} (h : s.haltBug = false) :
    s.fetchOpcode = (s.busRead s.pc, { s with pc := s.pc + 1 }) := by
  rw [State.fetchOpcode, h]
  rfl

theorem fetchOpcode_of_bug {s : State} (h : s.haltBug = true) :
    s.fetchOpcode = (s.busRead s.pc, { s with haltBug := false }) := by
  rw [State.fetchOpcode, h]
  rfl

/-- After the opcode fetch, which leaves `u`, the fetch reads what the decoder reads from the opcode and the two bytes at
PC, and moves PC past the operand bytes (R101). -/
theorem fetchInstr_of_decode {s u : State} {op : Byte} {i : Instr} {rest : List Byte} (hop : s.fetchOpcode = (op, u))
    (hdec : decode [op, u.busRead u.pc, u.busRead (u.pc + 1)] = .ok (i, rest)) :
    s.fetchInstr = (i, { u with pc := u.pc + BitVec.ofNat 16 ((encode i).length - 1) }) := by
  have hspec := primarySlot_spec op
  rw [State.fetchInstr, hop]
  cases hslot : primarySlot op with
  | op j =>
    simp only [hslot] at hspec ⊢
    rw [decode_of_op hslot] at hdec
    cases hdec
    rw [hspec.2]
    exact congrArg (fun pc => (i, ({ u with pc := pc } : State))) (BitVec.add_zero u.pc).symm
  | opN f =>
    simp only [hslot] at hspec ⊢
    rw [decode_of_opN hslot] at hdec
    cases hdec
    rw [(hspec _).2]
    rfl
  | opNN f =>
    have hnext : u.pc + 1 + 1 = u.pc + 2 := by bv_omega
    simp only [hslot] at hspec ⊢
    rw [decode_of_opNN hslot] at hdec
    cases hdec
    rw [(hspec _).2]
    exact congrArg (fun pc => (f _, ({ u with pc := pc } : State))) hnext
  | cb =>
    dsimp only
    rw [decode_of_cb hslot] at hdec
    cases hdec
    rw [(extendedInstr_spec _).2]
    rfl

/-- A Running step without a dispatch runs the instruction it decodes after the opcode fetch, which leaves `u`
(R290, R292). -/
theorem step_of_decode {s0 u : State} {op : Byte} {i : Instr} {rest : List Byte}
    (hm : s0.takeInput.2.mode = .running) (hnone : ¬ (s0.takeInput.2.ime = true ∧ s0.takeInput.2.pending ≠ 0))
    (hop : s0.takeInput.2.fetchOpcode = (op, u))
    (hdec : decode [op, u.busRead u.pc, u.busRead (u.pc + 1)] = .ok (i, rest)) :
    step s0 =
      finishStep s0.takeInput.2.imePending
        (exec i { u with pc := u.pc + BitVec.ofNat 16 ((encode i).length - 1) }) := by
  rw [step, engineStep_running hm, State.serve, if_neg hnone, State.runInstr, fetchInstr_of_decode hop hdec]

/-- Settles O8: the opcode fetch leaves PC and clears the bit (`fetchOpcode_of_bug`), so `step_of_decode` reads the operand
bytes from PC on. -/
theorem haltBugReadsTheByteTwice : Obligations.HaltBugReadsTheByteTwice := by
  unfold Obligations.HaltBugReadsTheByteTwice
  intro s0 i rest s hm hnone hbug hdec
  exact step_of_decode hm hnone (fetchOpcode_of_bug hbug) hdec

/-- Settles O7: the opcode fetch moves PC by one (`fetchOpcode_of_noBug`), and `step_of_decode` moves it by the rest of the
length. -/
theorem stepRunsDecodedInstruction : Obligations.StepRunsDecodedInstruction := by
  unfold Obligations.StepRunsDecodedInstruction
  intro s0 i rest s hm hnone hbug hdec
  have hlen : 1 ≤ (encode i).length := (lengthFollowsFromFirstByte.1 i (encodeInvertsDecode _ _ _ hdec).1).1
  have hpc : s.pc + 1 + BitVec.ofNat 16 ((encode i).length - 1) = s.pc + BitVec.ofNat 16 (encode i).length := by
    rw [BitVec.add_assoc, show (1 : Word) = BitVec.ofNat 16 1 from rfl, ← BitVec.ofNat_add, Nat.add_sub_cancel' hlen]
  have hnext : s.pc + 1 + 1 = s.pc + 2 := by bv_omega
  rw [← hnext] at hdec
  exact (step_of_decode hm hnone (fetchOpcode_of_noBug hbug) hdec).trans
    (congrArg (fun pc => finishStep s.imePending (exec i { s with pc := pc })) hpc)

/-! ### The delayed enable (R260, R273, R274, R292) -/

theorem finishStep_of_armed {u : State} (h : u.imePending = true) :
    finishStep true (.next u) = .next { u with ime := true, imePending := false } := by
  rw [finishStep, State.finishEnable, h]
  rfl

theorem finishStep_of_clear (arm : Bool) {u : State} (h : u.imePending = false) :
    finishStep arm (.next u) = .next u := by
  rw [finishStep, State.finishEnable, h, Bool.and_false]
  rfl

theorem finishStep_false (r : Result) : finishStep false r = r := by
  cases r <;> rfl

theorem enable_notMem_piece (o : Opnd) : Piece.ime ∉ o.piece ∧ Piece.imePending ∉ o.piece := by
  cases o <;> simp [Opnd.piece]

theorem enable_notMem_pair (rr : Pair) : Piece.ime ∉ rr.pieces ∧ Piece.imePending ∉ rr.pieces := by
  cases rr <;> simp [Pair.pieces]

theorem enable_notMem_stackPair (qq : StackPair) : Piece.ime ∉ qq.pieces ∧ Piece.imePending ∉ qq.pieces := by
  cases qq <;> simp [StackPair.pieces]

theorem enable_notMem_indirect (m : Indirect) : Piece.ime ∉ m.pieces ∧ Piece.imePending ∉ m.pieces := by
  cases m <;> simp [Indirect.pieces]

/-- Only the lines of DI, RETI and EI in the table name IME or its delayed enable (R34). -/
theorem enable_notMem_writes (f : Form) (hdi : f ≠ .di) (hreti : f ≠ .reti) (hei : f ≠ .ei) :
    Piece.ime ∉ f.writes ∧ Piece.imePending ∉ f.writes := by
  cases f with
  | di => exact absurd rfl hdi
  | reti => exact absurd rfl hreti
  | ei => exact absurd rfl hei
  | alu op o | aluN op n => cases op <;> simp [Form.writes]
  | _ => simp [Form.writes, enable_notMem_piece, enable_notMem_pair, enable_notMem_stackPair, enable_notMem_indirect]

/-- Two instructions have two pattern lines. -/
theorem form_ne_of_ne {i j : Instr} (h : i ≠ j) : i.form ≠ j.form := fun e =>
  h (by rw [← form_toInstr i, e, form_toInstr])

theorem exec_keeps_enable {i : Instr} {s t : State} (hi : i.wellFormed = true) (hdi : i ≠ .di) (hreti : i ≠ .reti)
    (hei : i ≠ .ei) (h : exec i s = .next t) : t.ime = s.ime ∧ t.imePending = s.imePending := by
  obtain ⟨hime, hpend⟩ :=
    enable_notMem_writes i.form (form_ne_of_ne hdi) (form_ne_of_ne hreti) (form_ne_of_ne hei)
  have e := exec_effect i s t hi h
  exact ⟨e.piece .ime hime, e.piece .imePending hpend⟩

theorem exec_ei (s : State) : exec .ei s = done 4 (enableInterrupts s) := rfl

theorem exec_di (s : State) : exec .di s = done 4 (disableInterrupts s) := rfl

theorem exec_reti (s : State) : exec .reti s = done 16 s.retInterrupt := rfl

/-- An armed enable stays armed through the next instruction, EI included, but not through DI and RETI (R292). -/
theorem exec_keeps_armed {i : Instr} {s t : State} (hi : i.wellFormed = true) (hdi : i ≠ .di) (hreti : i ≠ .reti)
    (hs : s.imePending = true) (h : exec i s = .next t) : t.imePending = true := by
  by_cases hei : i = .ei
  · subst hei
    rw [done_inj 4 _ t h]
    rfl
  · exact (exec_keeps_enable hi hdi hreti hei h).2.trans hs

/-- Settles O9: the end of a step makes an enable that is still armed (`exec_keeps_armed`) and nothing else, so what is
left is what the instruction itself does: nothing (`exec_keeps_enable`) unless it is EI, DI or RETI. -/
theorem delayedEnable : Obligations.DelayedEnable := by
  unfold Obligations.DelayedEnable
  refine ⟨fun i s t hi hdi hreti hs h => ?_, fun i s t hi hdi hreti hei hs h => ?_, fun s t hs h => ?_, fun s t h => ?_,
    fun s t h => ?_⟩
  · obtain ⟨u, hu⟩ := exec_next i s
    rw [hu, finishStep_of_armed (exec_keeps_armed hi hdi hreti hs hu)] at h
    cases h
    exact ⟨rfl, rfl⟩
  · rw [finishStep_false] at h
    obtain ⟨hime, hpend⟩ := exec_keeps_enable hi hdi hreti hei h
    exact ⟨hime, hpend.trans hs⟩
  · rw [finishStep_false, exec_ei] at h
    rw [done_inj 4 _ t h]
    exact ⟨rfl, rfl⟩
  · rw [exec_di, done_eq, finishStep_of_clear _ rfl] at h
    cases h
    exact ⟨rfl, rfl⟩
  · rw [exec_reti, done_eq, finishStep_of_clear _ rfl] at h
    cases h
    exact ⟨rfl, rfl⟩

/-! ### Taking an interrupt (R296 to R298) -/

/-- Settles O10: the step is the dispatch of the lowest pending source (`step_of_pending`, `lowestSource_eq`), whose whole
state `dispatch_eq` gives. -/
theorem interruptDispatch : Obligations.InterruptDispatch := by
  unfold Obligations.InterruptDispatch
  intro s0 i s pending hm hime hi hlow ret pushed cleared
  have hp : s.pending ≠ 0 := by
    intro hzero
    have hbit : s.pending.getLsbD i.index = true := hi
    rw [hzero] at hbit
    simp at hbit
  have hlowest : lowestSource s.pending = i := lowestSource_eq s.pending i hi hlow
  rw [step_of_pending s0 hm hime hp, hlowest, dispatch_eq]
  rfl

/-! ### What a dispatch leaves in memory (R298, R332) -/

/-- IF has no second address: the echo range mirrors work RAM only (R59). -/
theorem sameByte_ifAddr_iff (b : Word) : sameByte Config.ifAddr b ↔ b = Config.ifAddr := by
  constructor
  · intro h
    have hn := congrArg BitVec.toNat h
    have hb := regionOf_bounds b
    rw [canonicalAddr_toNat, canonicalAddr_toNat, if_neg (by decide)] at hn
    split at hn
    next he =>
      rw [he] at hb
      have hlast : b.toNat ≤ 0xFDFF := hb.2
      have hif : Config.ifAddr.toNat = 0xFF0F := rfl
      omega
    next => exact (BitVec.eq_of_toNat_eq hn).symm
  · rintro rfl
    rfl

/-- The bus in order, and a stack whose next two bytes keep what is written. -/
structure StackKeeps (s : State) : Prop where
  ok : s.bus.ok
  hi : s.bus.plainByte (s.sp - 1)
  lo : s.bus.plainByte (s.sp - 2)

/-- The bus once a dispatch has pushed the return address, before it clears the request (R298). -/
def State.pushedBus (s : State) : Bus :=
  (s.bus.write (s.sp - 1) s.dispatchReturn.hiByte).write (s.sp - 2) s.dispatchReturn.loByte

theorem pushedBus_ok {s : State} (h : s.bus.ok) : s.pushedBus.ok := write_ok _ _ _ (write_ok _ _ _ h)

theorem pushedBus_read_stack {s : State} (h : StackKeeps s) :
    s.pushedBus.read (s.sp - 1) = s.dispatchReturn.hiByte ∧ s.pushedBus.read (s.sp - 2) = s.dispatchReturn.loByte := by
  have hsucc : s.sp - 2 + 1 = s.sp - 1 := by bv_omega
  have hne : ¬ sameByte (s.sp - 2) (s.sp - 1) := hsucc ▸ not_sameByte_succ (s.sp - 2)
  exact read_write_write s.bus _ _ _ _ h.ok h.hi h.lo hne

theorem pushedBus_read_other {s : State} (h : StackKeeps s) {b : Word} (hhi : ¬ sameByte b (s.sp - 1))
    (hlo : ¬ sameByte b (s.sp - 2)) : s.pushedBus.read b = s.bus.read b := by
  rw [State.pushedBus, read_write_other _ _ b _ (write_ok _ _ _ h.ok) h.lo.1 fun e => hlo e.symm,
    read_write_other _ _ b _ h.ok h.hi.1 fun e => hhi e.symm]

theorem dispatch_bus (s : State) (i : Source) :
    (s.dispatch i).bus = s.pushedBus.write Config.ifAddr (s.pushedBus.read Config.ifAddr &&& ~~~ i.mask) := by
  rw [dispatch_eq]
  rfl

theorem dispatch_read_if {s : State} (h : s.bus.ok) (i : Source) :
    (s.dispatch i).busRead Config.ifAddr = s.pushedBus.read Config.ifAddr &&& ~~~ i.mask := by
  rw [busRead_eq, dispatch_bus]
  exact read_write_same _ _ _ (pushedBus_ok h) (plainByte_of_inOutsideWindow _ _ ifAddr_inOutsideWindow)

theorem dispatch_read_other {s : State} (h : s.bus.ok) (i : Source) {b : Word} (hb : b ≠ Config.ifAddr) :
    (s.dispatch i).busRead b = s.pushedBus.read b := by
  rw [busRead_eq, dispatch_bus]
  exact read_write_other _ _ b _ (pushedBus_ok h) (not_isControl_of_inOutsideWindow _ ifAddr_inOutsideWindow) fun e =>
    hb ((sameByte_ifAddr_iff b).1 e)

theorem dispatch_saves_return {s : State} (h : StackKeeps s) (i : Source) (hhi : s.sp - 1 ≠ Config.ifAddr)
    (hlo : s.sp - 2 ≠ Config.ifAddr) :
    (s.dispatch i).busRead (s.sp - 2) = s.dispatchReturn.loByte ∧
      (s.dispatch i).busRead (s.sp - 1) = s.dispatchReturn.hiByte := by
  obtain ⟨hreadHi, hreadLo⟩ := pushedBus_read_stack h
  exact ⟨(dispatch_read_other h.ok i hlo).trans hreadLo, (dispatch_read_other h.ok i hhi).trans hreadHi⟩

theorem dispatch_clears_request {s : State} (h : StackKeeps s) (i : Source) (hhi : s.sp - 1 ≠ Config.ifAddr)
    (hlo : s.sp - 2 ≠ Config.ifAddr) :
    (s.dispatch i).busRead Config.ifAddr = s.busRead Config.ifAddr &&& ~~~ i.mask := by
  rw [dispatch_read_if h.ok, busRead_eq, pushedBus_read_other h (fun e => hhi ((sameByte_ifAddr_iff _).1 e))
    (fun e => hlo ((sameByte_ifAddr_iff _).1 e))]

theorem dispatch_keeps_other_bytes {s : State} (h : StackKeeps s) (i : Source) {b : Word}
    (hhi : ¬ sameByte b (s.sp - 1)) (hlo : ¬ sameByte b (s.sp - 2)) (hif : b ≠ Config.ifAddr) :
    (s.dispatch i).busRead b = s.busRead b :=
  (dispatch_read_other h.ok i hif).trans (pushedBus_read_other h hhi hlo)

theorem dispatch_reg (s : State) (i : Source) (r : Reg8) : (s.dispatch i).reg r = s.reg r := by
  cases r <;> rfl

/-- Settles O11: the step is a dispatch; its registers are `dispatch_eq`, and in memory it saves the return address, clears
the request and keeps the rest, by the three lemmas above. -/
theorem dispatchSavesOnlyPc : Obligations.DispatchSavesOnlyPc := by
  unfold Obligations.DispatchSavesOnlyPc
  intro s0 t s ⟨_, hbus, _⟩ hm hime hp h
  have ht : t = (s.dispatch (lowestSource s.pending)).setCycles Config.cyclesDispatch :=
    done_inj _ _ t ((step_of_pending s0 hm hime hp).symm.trans h)
  generalize lowestSource s.pending = i at ht ⊢
  subst ht
  obtain ⟨hcart, hbase⟩ := dispatch_sameCartridge s i
  refine ⟨dispatch_reg s i, dispatch_f s i, congrArg State.sp (dispatch_eq s i), (dispatch_mode s i).trans hm, hcart,
    hbase, fun hhi hlo hhiIf hloIf => ?_⟩
  have hstack : StackKeeps s := ⟨hbus, hhi, hlo⟩
  obtain ⟨hreadLo, hreadHi⟩ := dispatch_saves_return hstack i hhiIf hloIf
  exact ⟨hreadLo, hreadHi, dispatch_clears_request hstack i hhiIf hloIf,
    fun b hbHi hbLo hbIf => dispatch_keeps_other_bytes hstack i hbHi hbLo hbIf⟩

end Sys2Proof.Machine
end

section
/-! PROOFS. The family 70_reset_and_hazards: the count a step returns is read by nothing (R340), and the end of a run that
R343 recommends is a fixed point of the engine. -/

namespace Sys2Proof.Machine

/-! ### Updates commute with the count (R340) -/

theorem setReg_setCycles (s : State) (r : Reg8) (v : Byte) (n : Nat) :
    (s.setCycles n).setReg r v = (s.setReg r v).setCycles n := by
  cases r <;> rfl

theorem setPair_setCycles (s : State) (rr : Pair) (v : Word) (n : Nat) :
    (s.setCycles n).setPair rr v = (s.setPair rr v).setCycles n := by
  cases rr <;> rfl

theorem setStackPair_setCycles (s : State) (qq : StackPair) (v : Word) (n : Nat) :
    (s.setCycles n).setStackPair qq v = (s.setStackPair qq v).setCycles n := by
  cases qq <;> rfl

theorem write8_setCycles (s : State) (o : Opnd) (v : Byte) (n : Nat) :
    (s.setCycles n).write8 o v = (s.write8 o v).setCycles n := by
  cases o with
  | reg r => exact setReg_setCycles s r v n
  | indHl => rfl

theorem setFlags_of_setCycles {n : Nat} {u v : State} {fz fn fh fc : Bool} (e : u = v.setCycles n) :
    u.setFlags fz fn fh fc = (v.setFlags fz fn fh fc).setCycles n := by
  rw [e]
  rfl

theorem incOperand_setCycles (o : Opnd) (s : State) (n : Nat) :
    incOperand o (s.setCycles n) = (incOperand o s).setCycles n :=
  setFlags_of_setCycles (write8_setCycles s o _ n)

theorem decOperand_setCycles (o : Opnd) (s : State) (n : Nat) :
    decOperand o (s.setCycles n) = (decOperand o s).setCycles n :=
  setFlags_of_setCycles (write8_setCycles s o _ n)

theorem rotOperand_setCycles (op : RotOp) (o : Opnd) (s : State) (n : Nat) :
    rotOperand op o (s.setCycles n) = (rotOperand op o s).setCycles n :=
  setFlags_of_setCycles (write8_setCycles s o _ n)

theorem aluByte_setCycles (op : AluOp) (v : Byte) (s : State) (n : Nat) :
    aluByte op v (s.setCycles n) = (aluByte op v s).setCycles n := by
  rw [aluByte_eq, aluByte_eq]
  rfl

theorem halt_setCycles (s : State) (n : Nat) : halt (s.setCycles n) = (halt s).setCycles n := by
  rw [halt_eq, halt_eq]
  rfl

/-! ### No outcome depends on the count before it (R340) -/

/-- An outcome carries the count it is given, whatever count stood in the state before. -/
theorem done_of_setCycles {m n : Nat} {u v : State} (h : u = v.setCycles n) : done m u = done m v := by
  rw [h]
  rfl

/-- A pattern line answers the same from any count: the updates that split on an operand commute with it by the lemmas
above, and the others are one record update each. -/
theorem run_setCycles (f : Form) (s : State) (n : Nat) (hf : f ≠ .prefixCb) : f.run (s.setCycles n) = f.run s := by
  cases f with
  | prefixCb => exact absurd rfl hf
  | ldPairNn rr nn => exact done_of_setCycles (setPair_setCycles s rr nn n)
  | incPair rr | decPair rr => exact done_of_setCycles (setPair_setCycles s rr _ n)
  | ldIndA m | ldAInd m => cases m <;> rfl
  | ldRN r _ | ldRInd r | ldRR r _ => exact done_of_setCycles (setReg_setCycles s r _ n)
  | pop qq => exact done_of_setCycles (setStackPair_setCycles s.pop16.2 qq _ n)
  | halt => exact done_of_setCycles (halt_setCycles s n)
  | inc o => cases o <;> exact done_of_setCycles (incOperand_setCycles _ s n)
  | dec o => cases o <;> exact done_of_setCycles (decOperand_setCycles _ s n)
  | alu op o => cases o <;> exact done_of_setCycles (aluByte_setCycles op _ s n)
  | aluN op v => exact done_of_setCycles (aluByte_setCycles op v s n)
  | rot op o => exact done_of_setCycles (rotOperand_setCycles op o s n)
  | res _ o | set _ o => exact done_of_setCycles (write8_setCycles s o _ n)
  | _ => rfl

theorem exec_setCycles (i : Instr) (s : State) (n : Nat) (hi : i.wellFormed = true) :
    exec i (s.setCycles n) = exec i s := by
  rw [exec_eq_run, exec_eq_run, run_setCycles _ s n (form_ne_prefixCb i hi)]

theorem fetchOpcode_setCycles (s : State) (n : Nat) :
    (s.setCycles n).fetchOpcode = (s.fetchOpcode.1, s.fetchOpcode.2.setCycles n) := by
  cases h : s.haltBug with
  | false =>
    rw [fetchOpcode_of_noBug h, fetchOpcode_of_noBug (s := s.setCycles n) h]
    rfl
  | true =>
    rw [fetchOpcode_of_bug h, fetchOpcode_of_bug (s := s.setCycles n) h]
    rfl

theorem fetchInstr_setCycles (s : State) (n : Nat) :
    (s.setCycles n).fetchInstr = (s.fetchInstr.1, s.fetchInstr.2.setCycles n) := by
  unfold State.fetchInstr
  rw [fetchOpcode_setCycles]
  cases hslot : primarySlot s.fetchOpcode.1 <;> simp only [hslot] <;> rfl

theorem runInstr_setCycles (s : State) (n : Nat) : (s.setCycles n).runInstr = s.runInstr := by
  rw [State.runInstr, fetchInstr_setCycles]
  exact congrArg (finishStep s.imePending) (exec_setCycles _ _ n (fetchInstr_wellFormed s))

theorem serve_setCycles (s : State) (n : Nat) : (s.setCycles n).serve = s.serve := by
  rw [State.serve, runInstr_setCycles]
  rfl

theorem engineStep_setCycles (s : State) (wake : Bool) (n : Nat) :
    (s.setCycles n).engineStep wake = s.engineStep wake := by
  have hwoken : ({ s.setCycles n with mode := .running } : State).serve = ({ s with mode := .running } : State).serve :=
    serve_setCycles { s with mode := .running } n
  cases hm : s.mode with
  | running => rw [engineStep_running hm, engineStep_running (s := s.setCycles n) hm, serve_setCycles]
  | stopped =>
    rw [engineStep_stopped hm, engineStep_stopped (s := s.setCycles n) hm, hwoken]
    rfl
  | halted =>
    rw [engineStep_halted hm, engineStep_halted (s := s.setCycles n) hm, hwoken]
    rfl
  | locked =>
    rw [engineStep_locked hm, engineStep_locked (s := s.setCycles n) hm]
    rfl

theorem applyMoves_setCycles (ms : List EnvMove) (s : State) (n : Nat) :
    (s.setCycles n).applyMoves ms = (s.applyMoves ms).setCycles n := by
  induction ms generalizing s with
  | nil => rfl
  | cons m ms ih =>
    have hmove : (s.setCycles n).applyMove m = (s.applyMove m).setCycles n := by cases m <;> rfl
    rw [State.applyMoves, hmove, ih, State.applyMoves]

theorem takeInput_setCycles (s : State) (n : Nat) :
    (s.setCycles n).takeInput = (s.takeInput.1, s.takeInput.2.setCycles n) := by
  unfold State.takeInput
  rw [setCycles_inputs]
  cases s.inputs with
  | nil => rfl
  | cons x rest => exact congrArg (Prod.mk x.wake) (applyMoves_setCycles x.moves { s with inputs := rest } n)

/-- Settles O18: the outside carries the count along (`takeInput_setCycles`), and the engine step does not read it
(`engineStep_setCycles`). -/
theorem cycleCountIsOnlyReturned : Obligations.CycleCountIsOnlyReturned := by
  unfold Obligations.CycleCountIsOnlyReturned
  intro s n
  change step (s.setCycles n) = step s
  rw [step, takeInput_setCycles, engineStep_setCycles, step]

/-! ### The recommended end of a run (R343) -/

/-- Settles O19: a step the recommended end holds of leaves a fixed point of the engine (`resting_of_endOfRun`), whatever
`wake` is next (`engineStep_of_resting`). -/
theorem endOfRunIsFixed : Obligations.EndOfRunIsFixed := by
  unfold Obligations.EndOfRunIsFixed
  intro wake wake' s t hstep hend
  exact engineStep_of_resting t wake' (resting_of_endOfRun s t wake hstep hend)

end Sys2Proof.Machine
end
